-- ==== Sys2Proof/Word.lean ====
section
/-! DEFINITION. The widths of the core (00_scope.md R6). -/

namespace Sys2Proof

/-- A register, an ALU operand, a memory cell: 8 bits. -/
abbrev Byte := BitVec 8

/-- A memory address, the program counter, a stack slot: 14 bits. -/
abbrev Addr := BitVec 14

/-- The address operand of a jump or call as fetched: 16 bits, of which 14 count (30_encoding.md R79). -/
abbrev Word := BitVec 16

end Sys2Proof
end

