-- ==== Sys2Proof/Syntax.lean ====
section
/-! DEFINITION. The instructions as syntax: register names, operands, conditions, and `Instr`, one constructor per
mnemonic of spec/opcode_table.json. A mnemonic with several rows keeps the opcode bits that tell its rows apart. -/

namespace Sys2Proof

/-- The seven register cells, codes 000 to 110 in this order (10_state.md R20, R22). -/
inductive Reg where
  | a | b | c | d | e | h | l
deriving DecidableEq, Repr

/-- What a 3-bit register code names: a cell, or memory at address M, never both (10_state.md R24). -/
inductive Operand where
  | reg (r : Reg)
  | m
deriving DecidableEq, Repr

/-- The six cells INR and DCR accept: every cell but A (R121, R122). -/
inductive CountReg where
  | b | c | d | e | h | l
deriving DecidableEq, Repr

/-- The eight ALU operations, codes 000 to 111 in this order (30_encoding.md R75). -/
inductive AluOp where
  | add | adc | sub | sbb | ana | xra | ora | cmp
deriving DecidableEq, Repr

/-- Where an ALU instruction's operand comes from: it decides what compare does to carry (40_alu_flag_unit.md R109, R110). -/
inductive AluForm where
  | imm | regmem
deriving DecidableEq, Repr

/-- The four rotates, selectors 000 to 011 in this order (30_encoding.md R76). -/
inductive Rotate where
  | rlc | rrc | ral | rar
deriving DecidableEq, Repr

/-- The four flag latches, selector codes 00 to 11 in this order (30_encoding.md R80). -/
inductive FlagName where
  | carry | zero | sign | parity
deriving DecidableEq, Repr

/-- A condition field: the flag tested and the sense bit it is tested against (30_encoding.md R80). -/
structure Cond where
  flag  : FlagName
  sense : Bool
deriving DecidableEq, Repr

/-- The instruction set (30_encoding.md R82 to R86). `v` is an immediate byte (R78), `w` an address operand as
fetched (R79), `x` the ignored opcode bits (R81), `op` the opcode byte itself. -/
inductive Instr where
  | hlt (op : Byte)
  | inrB
  | inrC
  | inrD
  | inrE
  | inrH
  | inrL
  | dcrB
  | dcrC
  | dcrD
  | dcrE
  | dcrH
  | dcrL
  | unk (op : Byte)
  | adi (v : Byte)
  | aci (v : Byte)
  | sui (v : Byte)
  | sbi (v : Byte)
  | ani (v : Byte)
  | xri (v : Byte)
  | ori (v : Byte)
  | cpi (v : Byte)
  | mviA (v : Byte)
  | mviB (v : Byte)
  | mviC (v : Byte)
  | mviD (v : Byte)
  | mviE (v : Byte)
  | mviH (v : Byte)
  | mviL (v : Byte)
  | mviM (v : Byte)
  | rlc
  | rrc
  | ral
  | rar
  | ret (x : BitVec 3)
  | rfc
  | rfz
  | rfs
  | rfp
  | rtc
  | rtz
  | rts
  | rtp
  | rst0
  | rst1
  | rst2
  | rst3
  | rst4
  | rst5
  | rst6
  | rst7
  | jmp (x : BitVec 3) (w : Word)
  | jfc (w : Word)
  | jfz (w : Word)
  | jfs (w : Word)
  | jfp (w : Word)
  | jtc (w : Word)
  | jtz (w : Word)
  | jts (w : Word)
  | jtp (w : Word)
  | call (x : BitVec 3) (w : Word)
  | cfc (w : Word)
  | cfz (w : Word)
  | cfs (w : Word)
  | cfp (w : Word)
  | ctc (w : Word)
  | ctz (w : Word)
  | cts (w : Word)
  | ctp (w : Word)
  | iop (x : BitVec 5)
  | addA
  | addB
  | addC
  | addD
  | addE
  | addH
  | addL
  | addM
  | adcA
  | adcB
  | adcC
  | adcD
  | adcE
  | adcH
  | adcL
  | adcM
  | subA
  | subB
  | subC
  | subD
  | subE
  | subH
  | subL
  | subM
  | sbbA
  | sbbB
  | sbbC
  | sbbD
  | sbbE
  | sbbH
  | sbbL
  | sbbM
  | anaA
  | anaB
  | anaC
  | anaD
  | anaE
  | anaH
  | anaL
  | anaM
  | xraA
  | xraB
  | xraC
  | xraD
  | xraE
  | xraH
  | xraL
  | xraM
  | oraA
  | oraB
  | oraC
  | oraD
  | oraE
  | oraH
  | oraL
  | oraM
  | cmpA
  | cmpB
  | cmpC
  | cmpD
  | cmpE
  | cmpH
  | cmpL
  | cmpM
  | movAA
  | movAB
  | movAC
  | movAD
  | movAE
  | movAH
  | movAL
  | movAM
  | movBA
  | movBB
  | movBC
  | movBD
  | movBE
  | movBH
  | movBL
  | movBM
  | movCA
  | movCB
  | movCC
  | movCD
  | movCE
  | movCH
  | movCL
  | movCM
  | movDA
  | movDB
  | movDC
  | movDD
  | movDE
  | movDH
  | movDL
  | movDM
  | movEA
  | movEB
  | movEC
  | movED
  | movEE
  | movEH
  | movEL
  | movEM
  | movHA
  | movHB
  | movHC
  | movHD
  | movHE
  | movHH
  | movHL
  | movHM
  | movLA
  | movLB
  | movLC
  | movLD
  | movLE
  | movLH
  | movLL
  | movLM
  | movMA
  | movMB
  | movMC
  | movMD
  | movME
  | movMH
  | movML
deriving DecidableEq, Repr

end Sys2Proof
end

