-- ==== Sys2Proof/WellFormed.lean ====
section
/-! DEFINITION. Which terms of `Instr` stand for an encoding. The fields' types leave two checks: the byte a halt or an
unknown opcode carries is one of those the spec names. -/

namespace Sys2Proof

/-- The three halt bytes (R120, R203). -/
def haltBytes : List Byte := [0x00#8, 0x01#8, 0xFF#8]

/-- The six unknown opcode bytes (30_encoding.md R87). -/
def unknownBytes : List Byte := [0x22#8, 0x2A#8, 0x32#8, 0x38#8, 0x39#8, 0x3A#8]

/-- The well-formed instructions: those some word decodes to. -/
def Instr.wf : Instr → Bool
  | .hlt op => haltBytes.contains op
  | .unk op => unknownBytes.contains op
  | .inrB | .inrC | .inrD | .inrE | .inrH | .inrL
  | .dcrB | .dcrC | .dcrD | .dcrE | .dcrH | .dcrL
  | .adi _ | .aci _ | .sui _ | .sbi _ | .ani _ | .xri _
  | .ori _ | .cpi _ | .mviA _ | .mviB _ | .mviC _ | .mviD _
  | .mviE _ | .mviH _ | .mviL _ | .mviM _ | .rlc | .rrc
  | .ral | .rar | .ret _ | .rfc | .rfz | .rfs
  | .rfp | .rtc | .rtz | .rts | .rtp | .rst0
  | .rst1 | .rst2 | .rst3 | .rst4 | .rst5 | .rst6
  | .rst7 | .jmp _ _ | .jfc _ | .jfz _ | .jfs _ | .jfp _
  | .jtc _ | .jtz _ | .jts _ | .jtp _ | .call _ _ | .cfc _
  | .cfz _ | .cfs _ | .cfp _ | .ctc _ | .ctz _ | .cts _
  | .ctp _ | .iop _ | .addA | .addB | .addC | .addD
  | .addE | .addH | .addL | .addM | .adcA | .adcB
  | .adcC | .adcD | .adcE | .adcH | .adcL | .adcM
  | .subA | .subB | .subC | .subD | .subE | .subH
  | .subL | .subM | .sbbA | .sbbB | .sbbC | .sbbD
  | .sbbE | .sbbH | .sbbL | .sbbM | .anaA | .anaB
  | .anaC | .anaD | .anaE | .anaH | .anaL | .anaM
  | .xraA | .xraB | .xraC | .xraD | .xraE | .xraH
  | .xraL | .xraM | .oraA | .oraB | .oraC | .oraD
  | .oraE | .oraH | .oraL | .oraM | .cmpA | .cmpB
  | .cmpC | .cmpD | .cmpE | .cmpH | .cmpL | .cmpM
  | .movAA | .movAB | .movAC | .movAD | .movAE | .movAH
  | .movAL | .movAM | .movBA | .movBB | .movBC | .movBD
  | .movBE | .movBH | .movBL | .movBM | .movCA | .movCB
  | .movCC | .movCD | .movCE | .movCH | .movCL | .movCM
  | .movDA | .movDB | .movDC | .movDD | .movDE | .movDH
  | .movDL | .movDM | .movEA | .movEB | .movEC | .movED
  | .movEE | .movEH | .movEL | .movEM | .movHA | .movHB
  | .movHC | .movHD | .movHE | .movHH | .movHL | .movHM
  | .movLA | .movLB | .movLC | .movLD | .movLE | .movLH
  | .movLL | .movLM | .movMA | .movMB | .movMC | .movMD
  | .movME | .movMH | .movML => true

end Sys2Proof
end

