-- ==== Sys2Proof/Decode.lean ====
section
/-! DEFINITION. Decoding of instruction bytes and the encoder, both from the tables of 30_encoding.md. -/

namespace Sys2Proof

/-! ## Fields of the opcode byte (R71) and of the operands -/

/-- `g = op[7:6]`, the opcode group. -/
def groupField (op : Byte) : BitVec 2 := op.extractLsb' 6 2

/-- `m = op[5:3]`, the middle 3 bits. -/
def midField (op : Byte) : BitVec 3 := op.extractLsb' 3 3

/-- `l = op[2:0]`, the low 3 bits. -/
def lowField (op : Byte) : BitVec 3 := op.extractLsb' 0 3

/-- The opcode byte with the fields `g`, `m`, `l`. -/
def opcodeByte (g : BitVec 2) (m l : BitVec 3) : Byte := g ++ m ++ l

/-- The address word `hi :: lo` (R79; 20_memory.md R56). -/
def addrWord (lo hi : Byte) : Word := hi ++ lo

/-- The two operand bytes of an address word, low byte first (R70, format F3). -/
def addrBytes (w : Word) : List Byte := [w.extractLsb' 0 8, w.extractLsb' 8 8]

/-- `length(op)`: the length of an instruction in bytes, a function of its opcode byte alone (R72). -/
def instrLength (op : Byte) : Nat :=
  if groupField op = 0b00#2 ∧ (lowField op = 0b100#3 ∨ lowField op = 0b110#3) then 2
  else if groupField op = 0b01#2 ∧ (lowField op).getLsbD 0 = false then 3
  else 1

/-! ## Codes (R74 to R80) -/

/-- Register code to operand (10_state.md R22, R24; 30_encoding.md R74). PRESUMED for B to L (log 1). -/
def operandOfCode (code : BitVec 3) : Operand :=
  match code.toNat with
  | 0 => .reg .a
  | 1 => .reg .b
  | 2 => .reg .c
  | 3 => .reg .d
  | 4 => .reg .e
  | 5 => .reg .h
  | 6 => .reg .l
  | _ => .m

/-- The code of a register cell (10_state.md R22). -/
def Reg.code : Reg → BitVec 3
  | .a => 0b000#3
  | .b => 0b001#3
  | .c => 0b010#3
  | .d => 0b011#3
  | .e => 0b100#3
  | .h => 0b101#3
  | .l => 0b110#3

/-- The register code of an operand, 111 for M (10_state.md R22). -/
def Operand.code : Operand → BitVec 3
  | .reg r => r.code
  | .m => 0b111#3

/-- The register cell INR or DCR names. -/
def CountReg.toReg : CountReg → Reg
  | .b => .b
  | .c => .c
  | .d => .d
  | .e => .e
  | .h => .h
  | .l => .l

/-- The cells INR and DCR accept: codes 001 to 110 (R121, R122); 111 is excluded by R123, and 000 never arrives here
because the halt test comes first (R73). -/
def countRegOfCode (code : BitVec 3) : Option CountReg :=
  match code.toNat with
  | 1 => some .b
  | 2 => some .c
  | 3 => some .d
  | 4 => some .e
  | 5 => some .h
  | 6 => some .l
  | _ => none

/-- ALU operation code (R75). DEDUCED but for 000 (log 5). -/
def aluOfCode (code : BitVec 3) : AluOp :=
  match code.toNat with
  | 0 => .add
  | 1 => .adc
  | 2 => .sub
  | 3 => .sbb
  | 4 => .ana
  | 5 => .xra
  | 6 => .ora
  | _ => .cmp

/-- The code of an ALU operation (R75). -/
def AluOp.code : AluOp → BitVec 3
  | .add => 0b000#3
  | .adc => 0b001#3
  | .sub => 0b010#3
  | .sbb => 0b011#3
  | .ana => 0b100#3
  | .xra => 0b101#3
  | .ora => 0b110#3
  | .cmp => 0b111#3

/-- Rotate selector (R76); 100 to 111 select none. DEDUCED (log 6). -/
def rotateOfCode (code : BitVec 3) : Option Rotate :=
  match code.toNat with
  | 0 => some .rlc
  | 1 => some .rrc
  | 2 => some .ral
  | 3 => some .rar
  | _ => none

/-- The selector of a rotate (R76). -/
def Rotate.code : Rotate → BitVec 3
  | .rlc => 0b000#3
  | .rrc => 0b001#3
  | .ral => 0b010#3
  | .rar => 0b011#3

/-- Condition field `k`: sense bit `k[2]`, selector `k[1:0]` (R80). PRESUMED (log 4). -/
def condOfCode (k : BitVec 3) : Cond :=
  { flag :=
      match (k.extractLsb' 0 2).toNat with
      | 0 => .carry
      | 1 => .zero
      | 2 => .sign
      | _ => .parity
    sense := k.getLsbD 2 }

/-- The selector code of a flag (R80). -/
def FlagName.code : FlagName → BitVec 2
  | .carry => 0b00#2
  | .zero => 0b01#2
  | .sign => 0b10#2
  | .parity => 0b11#2

/-- The condition field of a condition (R80). -/
def Cond.code (k : Cond) : BitVec 3 := BitVec.ofBool k.sense ++ k.flag.code

/-! ## From operands to the instruction of that name -/

/-- INR d (R121). -/
def inrInstr : CountReg → Instr
  | .b => .inrB
  | .c => .inrC
  | .d => .inrD
  | .e => .inrE
  | .h => .inrH
  | .l => .inrL

/-- DCR d (R122). -/
def dcrInstr : CountReg → Instr
  | .b => .dcrB
  | .c => .dcrC
  | .d => .dcrD
  | .e => .dcrE
  | .h => .dcrH
  | .l => .dcrL

/-- The ALU operation with an immediate (R124). -/
def aluImmInstr : AluOp → Byte → Instr
  | .add, v => .adi v
  | .adc, v => .aci v
  | .sub, v => .sui v
  | .sbb, v => .sbi v
  | .ana, v => .ani v
  | .xra, v => .xri v
  | .ora, v => .ori v
  | .cmp, v => .cpi v

/-- MVI d,imm and MVI M,imm (R133, R134). -/
def mviInstr : Operand → Byte → Instr
  | .reg .a, v => .mviA v
  | .reg .b, v => .mviB v
  | .reg .c, v => .mviC v
  | .reg .d, v => .mviD v
  | .reg .e, v => .mviE v
  | .reg .h, v => .mviH v
  | .reg .l, v => .mviL v
  | .m, v => .mviM v

/-- The rotate of that name (R135). -/
def rotateInstr : Rotate → Instr
  | .rlc => .rlc
  | .rrc => .rrc
  | .ral => .ral
  | .rar => .rar

/-- Rxy (R151). -/
def retIfInstr : Cond → Instr
  | ⟨.carry, false⟩ => .rfc
  | ⟨.zero, false⟩ => .rfz
  | ⟨.sign, false⟩ => .rfs
  | ⟨.parity, false⟩ => .rfp
  | ⟨.carry, true⟩ => .rtc
  | ⟨.zero, true⟩ => .rtz
  | ⟨.sign, true⟩ => .rts
  | ⟨.parity, true⟩ => .rtp

/-- Jxy addr (R161). -/
def jumpIfInstr : Cond → Word → Instr
  | ⟨.carry, false⟩, w => .jfc w
  | ⟨.zero, false⟩, w => .jfz w
  | ⟨.sign, false⟩, w => .jfs w
  | ⟨.parity, false⟩, w => .jfp w
  | ⟨.carry, true⟩, w => .jtc w
  | ⟨.zero, true⟩, w => .jtz w
  | ⟨.sign, true⟩, w => .jts w
  | ⟨.parity, true⟩, w => .jtp w

/-- Cxy addr (R163). -/
def callIfInstr : Cond → Word → Instr
  | ⟨.carry, false⟩, w => .cfc w
  | ⟨.zero, false⟩, w => .cfz w
  | ⟨.sign, false⟩, w => .cfs w
  | ⟨.parity, false⟩, w => .cfp w
  | ⟨.carry, true⟩, w => .ctc w
  | ⟨.zero, true⟩, w => .ctz w
  | ⟨.sign, true⟩, w => .cts w
  | ⟨.parity, true⟩, w => .ctp w

/-- RST a (R152). -/
def rstInstr (a : BitVec 3) : Instr :=
  match a.toNat with
  | 0 => .rst0
  | 1 => .rst1
  | 2 => .rst2
  | 3 => .rst3
  | 4 => .rst4
  | 5 => .rst5
  | 6 => .rst6
  | _ => .rst7

/-- The ALU operation with a register or M (R175). -/
def aluInstr : AluOp → Operand → Instr
  | .add, .reg .a => .addA
  | .add, .reg .b => .addB
  | .add, .reg .c => .addC
  | .add, .reg .d => .addD
  | .add, .reg .e => .addE
  | .add, .reg .h => .addH
  | .add, .reg .l => .addL
  | .add, .m => .addM
  | .adc, .reg .a => .adcA
  | .adc, .reg .b => .adcB
  | .adc, .reg .c => .adcC
  | .adc, .reg .d => .adcD
  | .adc, .reg .e => .adcE
  | .adc, .reg .h => .adcH
  | .adc, .reg .l => .adcL
  | .adc, .m => .adcM
  | .sub, .reg .a => .subA
  | .sub, .reg .b => .subB
  | .sub, .reg .c => .subC
  | .sub, .reg .d => .subD
  | .sub, .reg .e => .subE
  | .sub, .reg .h => .subH
  | .sub, .reg .l => .subL
  | .sub, .m => .subM
  | .sbb, .reg .a => .sbbA
  | .sbb, .reg .b => .sbbB
  | .sbb, .reg .c => .sbbC
  | .sbb, .reg .d => .sbbD
  | .sbb, .reg .e => .sbbE
  | .sbb, .reg .h => .sbbH
  | .sbb, .reg .l => .sbbL
  | .sbb, .m => .sbbM
  | .ana, .reg .a => .anaA
  | .ana, .reg .b => .anaB
  | .ana, .reg .c => .anaC
  | .ana, .reg .d => .anaD
  | .ana, .reg .e => .anaE
  | .ana, .reg .h => .anaH
  | .ana, .reg .l => .anaL
  | .ana, .m => .anaM
  | .xra, .reg .a => .xraA
  | .xra, .reg .b => .xraB
  | .xra, .reg .c => .xraC
  | .xra, .reg .d => .xraD
  | .xra, .reg .e => .xraE
  | .xra, .reg .h => .xraH
  | .xra, .reg .l => .xraL
  | .xra, .m => .xraM
  | .ora, .reg .a => .oraA
  | .ora, .reg .b => .oraB
  | .ora, .reg .c => .oraC
  | .ora, .reg .d => .oraD
  | .ora, .reg .e => .oraE
  | .ora, .reg .h => .oraH
  | .ora, .reg .l => .oraL
  | .ora, .m => .oraM
  | .cmp, .reg .a => .cmpA
  | .cmp, .reg .b => .cmpB
  | .cmp, .reg .c => .cmpC
  | .cmp, .reg .d => .cmpD
  | .cmp, .reg .e => .cmpE
  | .cmp, .reg .h => .cmpH
  | .cmp, .reg .l => .cmpL
  | .cmp, .m => .cmpM

/-- MOV d,s (R200). -/
def movInstr : Reg → Reg → Instr
  | .a, .a => .movAA
  | .a, .b => .movAB
  | .a, .c => .movAC
  | .a, .d => .movAD
  | .a, .e => .movAE
  | .a, .h => .movAH
  | .a, .l => .movAL
  | .b, .a => .movBA
  | .b, .b => .movBB
  | .b, .c => .movBC
  | .b, .d => .movBD
  | .b, .e => .movBE
  | .b, .h => .movBH
  | .b, .l => .movBL
  | .c, .a => .movCA
  | .c, .b => .movCB
  | .c, .c => .movCC
  | .c, .d => .movCD
  | .c, .e => .movCE
  | .c, .h => .movCH
  | .c, .l => .movCL
  | .d, .a => .movDA
  | .d, .b => .movDB
  | .d, .c => .movDC
  | .d, .d => .movDD
  | .d, .e => .movDE
  | .d, .h => .movDH
  | .d, .l => .movDL
  | .e, .a => .movEA
  | .e, .b => .movEB
  | .e, .c => .movEC
  | .e, .d => .movED
  | .e, .e => .movEE
  | .e, .h => .movEH
  | .e, .l => .movEL
  | .h, .a => .movHA
  | .h, .b => .movHB
  | .h, .c => .movHC
  | .h, .d => .movHD
  | .h, .e => .movHE
  | .h, .h => .movHH
  | .h, .l => .movHL
  | .l, .a => .movLA
  | .l, .b => .movLB
  | .l, .c => .movLC
  | .l, .d => .movLD
  | .l, .e => .movLE
  | .l, .h => .movLH
  | .l, .l => .movLL

/-- MOV d,M (R201). -/
def movFromMInstr : Reg → Instr
  | .a => .movAM
  | .b => .movBM
  | .c => .movCM
  | .d => .movDM
  | .e => .movEM
  | .h => .movHM
  | .l => .movLM

/-- MOV M,s (R202). -/
def movToMInstr : Reg → Instr
  | .a => .movMA
  | .b => .movMB
  | .c => .movMC
  | .d => .movMD
  | .e => .movME
  | .h => .movMH
  | .l => .movML

/-! ## The decode procedure (R73): in each group the tests in the order written, the first match wins -/

/-- Group 00. -/
def decodeGroup00 (op v : Byte) : Instr :=
  if op.extractLsb' 1 7 = 0b0000000#7 then .hlt op
  else
    match (lowField op).toNat with
    | 0 =>
      match countRegOfCode (midField op) with
      | some r => inrInstr r
      | none => .unk op
    | 1 =>
      match countRegOfCode (midField op) with
      | some r => dcrInstr r
      | none => .unk op
    | 2 =>
      match rotateOfCode (midField op) with
      | some k => rotateInstr k
      | none => .unk op
    | 3 => retIfInstr (condOfCode (midField op))
    | 4 => aluImmInstr (aluOfCode (midField op)) v
    | 5 => rstInstr (midField op)
    | 6 => mviInstr (operandOfCode (midField op)) v
    | _ => .ret (midField op)

/-- Group 01. -/
def decodeGroup01 (op : Byte) (w : Word) : Instr :=
  match (lowField op).toNat with
  | 0 => jumpIfInstr (condOfCode (midField op)) w
  | 2 => callIfInstr (condOfCode (midField op)) w
  | 4 => .jmp (midField op) w
  | 6 => .call (midField op) w
  | _ => .iop (op.extractLsb' 1 5)

/-- Group 10. -/
def decodeGroup10 (op : Byte) : Instr :=
  aluInstr (aluOfCode (midField op)) (operandOfCode (lowField op))

/-- Group 11. -/
def decodeGroup11 (op : Byte) : Instr :=
  if op = 0b11111111#8 then .hlt op
  else
    match operandOfCode (midField op), operandOfCode (lowField op) with
    | .reg dst, .reg src => movInstr dst src
    | .reg dst, .m => movFromMInstr dst
    | .m, .reg src => movToMInstr src
    | .m, .m => .hlt op

/-- The instruction of the opcode byte `op`, with `v` its immediate byte and `w` its address word; a format that has no
such operand does not look at them. Every byte value decodes (R73, R86). -/
def decodeOpcode (op v : Byte) (w : Word) : Instr :=
  match (groupField op).toNat with
  | 0 => decodeGroup00 op v
  | 1 => decodeGroup01 op w
  | 2 => decodeGroup10 op
  | _ => decodeGroup11 op

/-- Why bytes are no instruction: only that they end too early, since every opcode byte has a meaning (R86). DESIGN
CHOICE (log 31): the spec decodes from memory, where bytes never end, and says nothing of a list that is too short. -/
inductive DecodeError where
  /-- There is no opcode byte. -/
  | noOpcode
  /-- The immediate byte of a 2-byte instruction is missing. -/
  | missingImmediate (op : Byte)
  /-- An address byte of a 3-byte instruction is missing. -/
  | missingAddress (op : Byte)
deriving DecidableEq, Repr

/-- Decoding of the bytes at the head of a list: the instruction and the bytes after it (R70, R73). -/
def decode : List Byte → Except DecodeError (Instr × List Byte)
  | [] => .error .noOpcode
  | op :: rest =>
    match instrLength op with
    | 1 => .ok (decodeOpcode op 0#8 0#16, rest)
    | 2 =>
      match rest with
      | v :: rest => .ok (decodeOpcode op v 0#16, rest)
      | [] => .error (.missingImmediate op)
    | _ =>
      match rest with
      | lo :: hi :: rest => .ok (decodeOpcode op 0#8 (addrWord lo hi), rest)
      | _ => .error (.missingAddress op)

/-! ## The encoder (R82 to R85), written field by field from the patterns of the opcode map -/

/-- The bytes of an instruction. -/
def encode : Instr → List Byte
  | .hlt op => [op]
  | .inrB => [opcodeByte 0b00#2 0b001#3 0b000#3]
  | .inrC => [opcodeByte 0b00#2 0b010#3 0b000#3]
  | .inrD => [opcodeByte 0b00#2 0b011#3 0b000#3]
  | .inrE => [opcodeByte 0b00#2 0b100#3 0b000#3]
  | .inrH => [opcodeByte 0b00#2 0b101#3 0b000#3]
  | .inrL => [opcodeByte 0b00#2 0b110#3 0b000#3]
  | .dcrB => [opcodeByte 0b00#2 0b001#3 0b001#3]
  | .dcrC => [opcodeByte 0b00#2 0b010#3 0b001#3]
  | .dcrD => [opcodeByte 0b00#2 0b011#3 0b001#3]
  | .dcrE => [opcodeByte 0b00#2 0b100#3 0b001#3]
  | .dcrH => [opcodeByte 0b00#2 0b101#3 0b001#3]
  | .dcrL => [opcodeByte 0b00#2 0b110#3 0b001#3]
  | .unk op => [op]
  | .adi v => [opcodeByte 0b00#2 0b000#3 0b100#3, v]
  | .aci v => [opcodeByte 0b00#2 0b001#3 0b100#3, v]
  | .sui v => [opcodeByte 0b00#2 0b010#3 0b100#3, v]
  | .sbi v => [opcodeByte 0b00#2 0b011#3 0b100#3, v]
  | .ani v => [opcodeByte 0b00#2 0b100#3 0b100#3, v]
  | .xri v => [opcodeByte 0b00#2 0b101#3 0b100#3, v]
  | .ori v => [opcodeByte 0b00#2 0b110#3 0b100#3, v]
  | .cpi v => [opcodeByte 0b00#2 0b111#3 0b100#3, v]
  | .mviA v => [opcodeByte 0b00#2 0b000#3 0b110#3, v]
  | .mviB v => [opcodeByte 0b00#2 0b001#3 0b110#3, v]
  | .mviC v => [opcodeByte 0b00#2 0b010#3 0b110#3, v]
  | .mviD v => [opcodeByte 0b00#2 0b011#3 0b110#3, v]
  | .mviE v => [opcodeByte 0b00#2 0b100#3 0b110#3, v]
  | .mviH v => [opcodeByte 0b00#2 0b101#3 0b110#3, v]
  | .mviL v => [opcodeByte 0b00#2 0b110#3 0b110#3, v]
  | .mviM v => [opcodeByte 0b00#2 0b111#3 0b110#3, v]
  | .rlc => [opcodeByte 0b00#2 0b000#3 0b010#3]
  | .rrc => [opcodeByte 0b00#2 0b001#3 0b010#3]
  | .ral => [opcodeByte 0b00#2 0b010#3 0b010#3]
  | .rar => [opcodeByte 0b00#2 0b011#3 0b010#3]
  | .ret x => [opcodeByte 0b00#2 x 0b111#3]
  | .rfc => [opcodeByte 0b00#2 0b000#3 0b011#3]
  | .rfz => [opcodeByte 0b00#2 0b001#3 0b011#3]
  | .rfs => [opcodeByte 0b00#2 0b010#3 0b011#3]
  | .rfp => [opcodeByte 0b00#2 0b011#3 0b011#3]
  | .rtc => [opcodeByte 0b00#2 0b100#3 0b011#3]
  | .rtz => [opcodeByte 0b00#2 0b101#3 0b011#3]
  | .rts => [opcodeByte 0b00#2 0b110#3 0b011#3]
  | .rtp => [opcodeByte 0b00#2 0b111#3 0b011#3]
  | .rst0 => [opcodeByte 0b00#2 0b000#3 0b101#3]
  | .rst1 => [opcodeByte 0b00#2 0b001#3 0b101#3]
  | .rst2 => [opcodeByte 0b00#2 0b010#3 0b101#3]
  | .rst3 => [opcodeByte 0b00#2 0b011#3 0b101#3]
  | .rst4 => [opcodeByte 0b00#2 0b100#3 0b101#3]
  | .rst5 => [opcodeByte 0b00#2 0b101#3 0b101#3]
  | .rst6 => [opcodeByte 0b00#2 0b110#3 0b101#3]
  | .rst7 => [opcodeByte 0b00#2 0b111#3 0b101#3]
  | .jmp x w => opcodeByte 0b01#2 x 0b100#3 :: addrBytes w
  | .jfc w => opcodeByte 0b01#2 0b000#3 0b000#3 :: addrBytes w
  | .jfz w => opcodeByte 0b01#2 0b001#3 0b000#3 :: addrBytes w
  | .jfs w => opcodeByte 0b01#2 0b010#3 0b000#3 :: addrBytes w
  | .jfp w => opcodeByte 0b01#2 0b011#3 0b000#3 :: addrBytes w
  | .jtc w => opcodeByte 0b01#2 0b100#3 0b000#3 :: addrBytes w
  | .jtz w => opcodeByte 0b01#2 0b101#3 0b000#3 :: addrBytes w
  | .jts w => opcodeByte 0b01#2 0b110#3 0b000#3 :: addrBytes w
  | .jtp w => opcodeByte 0b01#2 0b111#3 0b000#3 :: addrBytes w
  | .call x w => opcodeByte 0b01#2 x 0b110#3 :: addrBytes w
  | .cfc w => opcodeByte 0b01#2 0b000#3 0b010#3 :: addrBytes w
  | .cfz w => opcodeByte 0b01#2 0b001#3 0b010#3 :: addrBytes w
  | .cfs w => opcodeByte 0b01#2 0b010#3 0b010#3 :: addrBytes w
  | .cfp w => opcodeByte 0b01#2 0b011#3 0b010#3 :: addrBytes w
  | .ctc w => opcodeByte 0b01#2 0b100#3 0b010#3 :: addrBytes w
  | .ctz w => opcodeByte 0b01#2 0b101#3 0b010#3 :: addrBytes w
  | .cts w => opcodeByte 0b01#2 0b110#3 0b010#3 :: addrBytes w
  | .ctp w => opcodeByte 0b01#2 0b111#3 0b010#3 :: addrBytes w
  | .iop x => [0b01#2 ++ x ++ 0b1#1]
  | .addA => [opcodeByte 0b10#2 0b000#3 0b000#3]
  | .addB => [opcodeByte 0b10#2 0b000#3 0b001#3]
  | .addC => [opcodeByte 0b10#2 0b000#3 0b010#3]
  | .addD => [opcodeByte 0b10#2 0b000#3 0b011#3]
  | .addE => [opcodeByte 0b10#2 0b000#3 0b100#3]
  | .addH => [opcodeByte 0b10#2 0b000#3 0b101#3]
  | .addL => [opcodeByte 0b10#2 0b000#3 0b110#3]
  | .addM => [opcodeByte 0b10#2 0b000#3 0b111#3]
  | .adcA => [opcodeByte 0b10#2 0b001#3 0b000#3]
  | .adcB => [opcodeByte 0b10#2 0b001#3 0b001#3]
  | .adcC => [opcodeByte 0b10#2 0b001#3 0b010#3]
  | .adcD => [opcodeByte 0b10#2 0b001#3 0b011#3]
  | .adcE => [opcodeByte 0b10#2 0b001#3 0b100#3]
  | .adcH => [opcodeByte 0b10#2 0b001#3 0b101#3]
  | .adcL => [opcodeByte 0b10#2 0b001#3 0b110#3]
  | .adcM => [opcodeByte 0b10#2 0b001#3 0b111#3]
  | .subA => [opcodeByte 0b10#2 0b010#3 0b000#3]
  | .subB => [opcodeByte 0b10#2 0b010#3 0b001#3]
  | .subC => [opcodeByte 0b10#2 0b010#3 0b010#3]
  | .subD => [opcodeByte 0b10#2 0b010#3 0b011#3]
  | .subE => [opcodeByte 0b10#2 0b010#3 0b100#3]
  | .subH => [opcodeByte 0b10#2 0b010#3 0b101#3]
  | .subL => [opcodeByte 0b10#2 0b010#3 0b110#3]
  | .subM => [opcodeByte 0b10#2 0b010#3 0b111#3]
  | .sbbA => [opcodeByte 0b10#2 0b011#3 0b000#3]
  | .sbbB => [opcodeByte 0b10#2 0b011#3 0b001#3]
  | .sbbC => [opcodeByte 0b10#2 0b011#3 0b010#3]
  | .sbbD => [opcodeByte 0b10#2 0b011#3 0b011#3]
  | .sbbE => [opcodeByte 0b10#2 0b011#3 0b100#3]
  | .sbbH => [opcodeByte 0b10#2 0b011#3 0b101#3]
  | .sbbL => [opcodeByte 0b10#2 0b011#3 0b110#3]
  | .sbbM => [opcodeByte 0b10#2 0b011#3 0b111#3]
  | .anaA => [opcodeByte 0b10#2 0b100#3 0b000#3]
  | .anaB => [opcodeByte 0b10#2 0b100#3 0b001#3]
  | .anaC => [opcodeByte 0b10#2 0b100#3 0b010#3]
  | .anaD => [opcodeByte 0b10#2 0b100#3 0b011#3]
  | .anaE => [opcodeByte 0b10#2 0b100#3 0b100#3]
  | .anaH => [opcodeByte 0b10#2 0b100#3 0b101#3]
  | .anaL => [opcodeByte 0b10#2 0b100#3 0b110#3]
  | .anaM => [opcodeByte 0b10#2 0b100#3 0b111#3]
  | .xraA => [opcodeByte 0b10#2 0b101#3 0b000#3]
  | .xraB => [opcodeByte 0b10#2 0b101#3 0b001#3]
  | .xraC => [opcodeByte 0b10#2 0b101#3 0b010#3]
  | .xraD => [opcodeByte 0b10#2 0b101#3 0b011#3]
  | .xraE => [opcodeByte 0b10#2 0b101#3 0b100#3]
  | .xraH => [opcodeByte 0b10#2 0b101#3 0b101#3]
  | .xraL => [opcodeByte 0b10#2 0b101#3 0b110#3]
  | .xraM => [opcodeByte 0b10#2 0b101#3 0b111#3]
  | .oraA => [opcodeByte 0b10#2 0b110#3 0b000#3]
  | .oraB => [opcodeByte 0b10#2 0b110#3 0b001#3]
  | .oraC => [opcodeByte 0b10#2 0b110#3 0b010#3]
  | .oraD => [opcodeByte 0b10#2 0b110#3 0b011#3]
  | .oraE => [opcodeByte 0b10#2 0b110#3 0b100#3]
  | .oraH => [opcodeByte 0b10#2 0b110#3 0b101#3]
  | .oraL => [opcodeByte 0b10#2 0b110#3 0b110#3]
  | .oraM => [opcodeByte 0b10#2 0b110#3 0b111#3]
  | .cmpA => [opcodeByte 0b10#2 0b111#3 0b000#3]
  | .cmpB => [opcodeByte 0b10#2 0b111#3 0b001#3]
  | .cmpC => [opcodeByte 0b10#2 0b111#3 0b010#3]
  | .cmpD => [opcodeByte 0b10#2 0b111#3 0b011#3]
  | .cmpE => [opcodeByte 0b10#2 0b111#3 0b100#3]
  | .cmpH => [opcodeByte 0b10#2 0b111#3 0b101#3]
  | .cmpL => [opcodeByte 0b10#2 0b111#3 0b110#3]
  | .cmpM => [opcodeByte 0b10#2 0b111#3 0b111#3]
  | .movAA => [opcodeByte 0b11#2 0b000#3 0b000#3]
  | .movAB => [opcodeByte 0b11#2 0b000#3 0b001#3]
  | .movAC => [opcodeByte 0b11#2 0b000#3 0b010#3]
  | .movAD => [opcodeByte 0b11#2 0b000#3 0b011#3]
  | .movAE => [opcodeByte 0b11#2 0b000#3 0b100#3]
  | .movAH => [opcodeByte 0b11#2 0b000#3 0b101#3]
  | .movAL => [opcodeByte 0b11#2 0b000#3 0b110#3]
  | .movAM => [opcodeByte 0b11#2 0b000#3 0b111#3]
  | .movBA => [opcodeByte 0b11#2 0b001#3 0b000#3]
  | .movBB => [opcodeByte 0b11#2 0b001#3 0b001#3]
  | .movBC => [opcodeByte 0b11#2 0b001#3 0b010#3]
  | .movBD => [opcodeByte 0b11#2 0b001#3 0b011#3]
  | .movBE => [opcodeByte 0b11#2 0b001#3 0b100#3]
  | .movBH => [opcodeByte 0b11#2 0b001#3 0b101#3]
  | .movBL => [opcodeByte 0b11#2 0b001#3 0b110#3]
  | .movBM => [opcodeByte 0b11#2 0b001#3 0b111#3]
  | .movCA => [opcodeByte 0b11#2 0b010#3 0b000#3]
  | .movCB => [opcodeByte 0b11#2 0b010#3 0b001#3]
  | .movCC => [opcodeByte 0b11#2 0b010#3 0b010#3]
  | .movCD => [opcodeByte 0b11#2 0b010#3 0b011#3]
  | .movCE => [opcodeByte 0b11#2 0b010#3 0b100#3]
  | .movCH => [opcodeByte 0b11#2 0b010#3 0b101#3]
  | .movCL => [opcodeByte 0b11#2 0b010#3 0b110#3]
  | .movCM => [opcodeByte 0b11#2 0b010#3 0b111#3]
  | .movDA => [opcodeByte 0b11#2 0b011#3 0b000#3]
  | .movDB => [opcodeByte 0b11#2 0b011#3 0b001#3]
  | .movDC => [opcodeByte 0b11#2 0b011#3 0b010#3]
  | .movDD => [opcodeByte 0b11#2 0b011#3 0b011#3]
  | .movDE => [opcodeByte 0b11#2 0b011#3 0b100#3]
  | .movDH => [opcodeByte 0b11#2 0b011#3 0b101#3]
  | .movDL => [opcodeByte 0b11#2 0b011#3 0b110#3]
  | .movDM => [opcodeByte 0b11#2 0b011#3 0b111#3]
  | .movEA => [opcodeByte 0b11#2 0b100#3 0b000#3]
  | .movEB => [opcodeByte 0b11#2 0b100#3 0b001#3]
  | .movEC => [opcodeByte 0b11#2 0b100#3 0b010#3]
  | .movED => [opcodeByte 0b11#2 0b100#3 0b011#3]
  | .movEE => [opcodeByte 0b11#2 0b100#3 0b100#3]
  | .movEH => [opcodeByte 0b11#2 0b100#3 0b101#3]
  | .movEL => [opcodeByte 0b11#2 0b100#3 0b110#3]
  | .movEM => [opcodeByte 0b11#2 0b100#3 0b111#3]
  | .movHA => [opcodeByte 0b11#2 0b101#3 0b000#3]
  | .movHB => [opcodeByte 0b11#2 0b101#3 0b001#3]
  | .movHC => [opcodeByte 0b11#2 0b101#3 0b010#3]
  | .movHD => [opcodeByte 0b11#2 0b101#3 0b011#3]
  | .movHE => [opcodeByte 0b11#2 0b101#3 0b100#3]
  | .movHH => [opcodeByte 0b11#2 0b101#3 0b101#3]
  | .movHL => [opcodeByte 0b11#2 0b101#3 0b110#3]
  | .movHM => [opcodeByte 0b11#2 0b101#3 0b111#3]
  | .movLA => [opcodeByte 0b11#2 0b110#3 0b000#3]
  | .movLB => [opcodeByte 0b11#2 0b110#3 0b001#3]
  | .movLC => [opcodeByte 0b11#2 0b110#3 0b010#3]
  | .movLD => [opcodeByte 0b11#2 0b110#3 0b011#3]
  | .movLE => [opcodeByte 0b11#2 0b110#3 0b100#3]
  | .movLH => [opcodeByte 0b11#2 0b110#3 0b101#3]
  | .movLL => [opcodeByte 0b11#2 0b110#3 0b110#3]
  | .movLM => [opcodeByte 0b11#2 0b110#3 0b111#3]
  | .movMA => [opcodeByte 0b11#2 0b111#3 0b000#3]
  | .movMB => [opcodeByte 0b11#2 0b111#3 0b001#3]
  | .movMC => [opcodeByte 0b11#2 0b111#3 0b010#3]
  | .movMD => [opcodeByte 0b11#2 0b111#3 0b011#3]
  | .movME => [opcodeByte 0b11#2 0b111#3 0b100#3]
  | .movMH => [opcodeByte 0b11#2 0b111#3 0b101#3]
  | .movML => [opcodeByte 0b11#2 0b111#3 0b110#3]

/-- The length of an instruction in bytes (R70; the length column of spec/opcode_table.json). -/
def Instr.size : Instr → Nat
  | .hlt _ | .inrB | .inrC | .inrD | .inrE | .inrH
  | .inrL | .dcrB | .dcrC | .dcrD | .dcrE | .dcrH
  | .dcrL | .unk _ | .rlc | .rrc | .ral | .rar
  | .ret _ | .rfc | .rfz | .rfs | .rfp | .rtc
  | .rtz | .rts | .rtp | .rst0 | .rst1 | .rst2
  | .rst3 | .rst4 | .rst5 | .rst6 | .rst7 | .iop _
  | .addA | .addB | .addC | .addD | .addE | .addH
  | .addL | .addM | .adcA | .adcB | .adcC | .adcD
  | .adcE | .adcH | .adcL | .adcM | .subA | .subB
  | .subC | .subD | .subE | .subH | .subL | .subM
  | .sbbA | .sbbB | .sbbC | .sbbD | .sbbE | .sbbH
  | .sbbL | .sbbM | .anaA | .anaB | .anaC | .anaD
  | .anaE | .anaH | .anaL | .anaM | .xraA | .xraB
  | .xraC | .xraD | .xraE | .xraH | .xraL | .xraM
  | .oraA | .oraB | .oraC | .oraD | .oraE | .oraH
  | .oraL | .oraM | .cmpA | .cmpB | .cmpC | .cmpD
  | .cmpE | .cmpH | .cmpL | .cmpM | .movAA | .movAB
  | .movAC | .movAD | .movAE | .movAH | .movAL | .movAM
  | .movBA | .movBB | .movBC | .movBD | .movBE | .movBH
  | .movBL | .movBM | .movCA | .movCB | .movCC | .movCD
  | .movCE | .movCH | .movCL | .movCM | .movDA | .movDB
  | .movDC | .movDD | .movDE | .movDH | .movDL | .movDM
  | .movEA | .movEB | .movEC | .movED | .movEE | .movEH
  | .movEL | .movEM | .movHA | .movHB | .movHC | .movHD
  | .movHE | .movHH | .movHL | .movHM | .movLA | .movLB
  | .movLC | .movLD | .movLE | .movLH | .movLL | .movLM
  | .movMA | .movMB | .movMC | .movMD | .movME | .movMH
  | .movML => 1
  | .adi _ | .aci _ | .sui _ | .sbi _ | .ani _ | .xri _
  | .ori _ | .cpi _ | .mviA _ | .mviB _ | .mviC _ | .mviD _
  | .mviE _ | .mviH _ | .mviL _ | .mviM _ => 2
  | .jmp _ _ | .jfc _ | .jfz _ | .jfs _ | .jfp _ | .jtc _
  | .jtz _ | .jts _ | .jtp _ | .call _ _ | .cfc _ | .cfz _
  | .cfs _ | .cfp _ | .ctc _ | .ctz _ | .cts _ | .ctp _ => 3

/-! ## Words numbered as spec/opcode_table.json numbers them -/

/-- The first three bytes of an instruction whose low `nbits` bits are those of `w`, bit 0 the least significant bit of
the first byte; every bit above them is 0. Three bytes are the longest instruction (R70). -/
def tableBytes (nbits w : Nat) : List Byte :=
  let v := w % 2 ^ nbits
  [BitVec.ofNat 8 v, BitVec.ofNat 8 (v / 256), BitVec.ofNat 8 (v / 65536)]

/-- The instruction the decoder reads from such a word. -/
def decodeTableWord (nbits w : Nat) : Option Instr :=
  match decode (tableBytes nbits w) with
  | .ok (i, _) => some i
  | .error _ => none

end Sys2Proof
end

