-- ==== Sys2Proof/Config.lean ====
section
/-! DEFINITION. The parameters of 00_scope.md R6 that the model names, and what an unlisted address reads as. -/

namespace Sys2Proof.Config

/-- Memory capacity in bytes, 2^14 (R6; 20_memory.md R50). -/
abbrev memSize : Nat := 16384

/-- What an address that the memory list does not list reads as. DESIGN CHOICE (log 18): the spec leaves the memory
contents at construction to the driver (`mem0`). Every contents can be listed, so only a claim about the contents of
`State.reset`'s memory could lean on this byte. -/
def unlistedByte : Byte := 0#8

end Sys2Proof.Config
end

