-- ==== Sys2Proof/Machine/State.lean ====
section
/-! DEFINITION. The state of the core and its memory (10_state.md R44), the diagnostics, and the state after reset. -/

namespace Sys2Proof.Machine

/-- The register file (10_state.md R20, R22): seven cells that do not alias. -/
structure Regs where
  a : Byte
  b : Byte
  c : Byte
  d : Byte
  e : Byte
  h : Byte
  l : Byte
deriving DecidableEq, Repr

/-- The four flag latches (10_state.md R33): sign, zero, parity, carry. -/
structure Flags where
  fs : Bool
  fz : Bool
  fp : Bool
  fc : Bool
deriving DecidableEq, Repr

/-- Memory as its listed cells, addresses strictly rising (the form is `Memory.wf`); an unlisted address reads as
`Config.unlistedByte`. -/
abbrev Memory := List Host.Cell

/-- The diagnostics (60_exceptions.md R211 to R215). None of them is a trap. -/
inductive Diagnostic where
  /-- One of the six unknown bytes was fetched; the byte and the address it was fetched from (R211). -/
  | unknownOpcode (op : Byte) (addr : Addr)
  /-- A push with sp = 8 was discarded (R212). -/
  | stackOverflow
  /-- A pop with sp = 0 returned the program counter (R213). -/
  | stackUnderflow
  /-- An index escaped masking (R214). The core never reports it: no instruction can form such an index. R215 does not
  state its information; it carries none here, no index (DESIGN CHOICE, log 30). -/
  | outOfRangeMemoryAccess
deriving DecidableEq, Repr

/-- The architectural state of the core and the driver's memory (R44), and the output of the last step. -/
structure State where
  /-- The seven register cells. -/
  regs : Regs
  /-- The program counter, 14 bits (R29). -/
  pc : Addr
  /-- The flag latches. -/
  flags : Flags
  /-- The eight slots of the call stack (R35). -/
  stk : Vector Addr 8
  /-- The stack pointer, 0 to 8 (R35, R39): how many addresses are held. -/
  sp : Fin 9
  /-- The halted latch (R40). -/
  halted : Bool
  /-- The 16384 bytes of memory (20_memory.md R50). -/
  mem : Memory
  /-- The diagnostics the last step emitted. The model's own field (log 14): an output, read by no instruction. -/
  diag : List Diagnostic
deriving DecidableEq, Repr

/-- Why the machine stops. -/
inductive Fault where
  /-- A memory index outside the array (R214; 20_memory.md R54). Raised only by the bounds-checked accesses by a wider
  index, `Memory.readIndex` and `Memory.writeIndex`; no step raises it. It carries no index (DESIGN CHOICE, log 30). Safe: the
  model stops. -/
  | outOfRangeMemoryAccess
deriving DecidableEq, Repr

/-- Why an instruction has no meaning. -/
inductive Refusal where
  /-- The instruction is not modelled. Raised by a refused arm of `exec`; there is none. Safe: the model stops. -/
  | notModelled (mnemonic : String)
deriving DecidableEq, Repr

/-- The outcome of a meaning. -/
abbrev Result := Host.Outcome State Fault Refusal

/-- Construction over the driver's memory `mem0` (70_reset_and_hazards.md R235; values of 10_state.md R45): every core
state is 0 but `halted`, memory is not touched, no diagnostic is emitted. -/
def State.construct (mem0 : Memory) : State where
  regs := { a := 0#8, b := 0#8, c := 0#8, d := 0#8, e := 0#8, h := 0#8, l := 0#8 }
  pc := 0#14
  flags := { fs := false, fz := false, fp := false, fc := false }
  stk := Vector.replicate 8 0#14
  sp := 0
  halted := true
  mem := mem0
  diag := []

/-- The machine right after reset, over a memory with nothing listed (log 18). -/
def State.reset : State := State.construct []

end Sys2Proof.Machine
end

