-- ==== Sys2Proof/Machine/Ops.lean ====
section
/-! DEFINITION. The shared operations: memory, registers, program counter, diagnostics, call stack, fetch. -/

namespace Sys2Proof.Machine

/-! ## Memory (20_memory.md R50 to R54) -/

/-- The byte listed for index `i`, the unlisted byte if there is none. -/
def Memory.lookup : Memory → Nat → Byte
  | [], _ => Config.unlistedByte
  | (k, v) :: rest, i => if k = i then v else Memory.lookup rest i

/-- The cells but those at index `i`. -/
def Memory.erase : Memory → Nat → Memory
  | [], _ => []
  | (k, v) :: rest, i => if k = i then Memory.erase rest i else (k, v) :: Memory.erase rest i

/-- The cells with one more, before the first one at a higher index. -/
def Memory.insert : Memory → Nat → Byte → Memory
  | [], i, v => [(i, v)]
  | (k, u) :: rest, i, v => if i < k then (i, v) :: (k, u) :: rest else (k, u) :: Memory.insert rest i v

/-- The cells with index `i` holding `v`; a byte equal to the unlisted byte is not listed. -/
def Memory.put (m : Memory) (i : Nat) (v : Byte) : Memory :=
  if v = Config.unlistedByte then m.erase i else (m.erase i).insert i v

/-- The cells from index `lo` on are in canonical form. -/
def Memory.wfFrom : Nat → Memory → Bool
  | _, [] => true
  | lo, (k, v) :: rest =>
    decide (lo ≤ k) && decide (k < Config.memSize) && !decide (v = Config.unlistedByte) && Memory.wfFrom (k + 1) rest

/-- The canonical form: indexes strictly rising and below the capacity, no cell equal to the unlisted byte. -/
def Memory.wf (m : Memory) : Bool := Memory.wfFrom 0 m

/-- `MemRead(addr, 1)` (R52). -/
def Memory.read (m : Memory) (a : Addr) : Byte := m.lookup a.toNat

/-- `MemWrite(addr, 1, v)` (R53). -/
def Memory.write (m : Memory) (a : Addr) (v : Byte) : Memory := m.put a.toNat v

/-- The bounds-checked read by an index that may be wider than 14 bits (R54, R214): never a wrapped access. -/
def Memory.readIndex (m : Memory) (i : Nat) : Except Fault Byte :=
  if i < Config.memSize then .ok (m.lookup i) else .error .outOfRangeMemoryAccess

/-- The bounds-checked write by an index that may be wider than 14 bits (R54, R214). -/
def Memory.writeIndex (m : Memory) (i : Nat) (v : Byte) : Except Fault Memory :=
  if i < Config.memSize then .ok (m.put i v) else .error .outOfRangeMemoryAccess

/-- `mask14(w)`, the low 14 bits (00_scope.md R8; 20_memory.md R51). -/
def mask14 (w : Word) : Addr := w.setWidth 14

/-- `MemRead` on the machine's memory. -/
def State.memRead (s : State) (a : Addr) : Byte := s.mem.read a

/-- `MemWrite` on the machine's memory: no core state changes (R53). -/
def State.memWrite (s : State) (a : Addr) (v : Byte) : State := { s with mem := s.mem.write a v }

/-- Consecutive bytes written from address `a` on, wrapping at the top of the space. -/
def State.memWriteList (s : State) (a : Addr) : List Byte → State
  | [] => s
  | v :: rest => State.memWriteList (s.memWrite a v) (a + 1#14) rest

/-! ## Registers and program counter -/

/-- `r[c]` for a cell (10_state.md R20). -/
def State.reg (s : State) : Reg → Byte
  | .a => s.regs.a
  | .b => s.regs.b
  | .c => s.regs.c
  | .d => s.regs.d
  | .e => s.regs.e
  | .h => s.regs.h
  | .l => s.regs.l

/-- `r[c] <- v` for a cell (R20). -/
def State.setReg (s : State) (r : Reg) (v : Byte) : State :=
  match r with
  | .a => { s with regs := { s.regs with a := v } }
  | .b => { s with regs := { s.regs with b := v } }
  | .c => { s with regs := { s.regs with c := v } }
  | .d => { s with regs := { s.regs with d := v } }
  | .e => { s with regs := { s.regs with e := v } }
  | .h => { s with regs := { s.regs with h := v } }
  | .l => { s with regs := { s.regs with l := v } }

/-- `pc <- t` for a 14-bit `t` (R29). -/
def State.setPc (s : State) (t : Addr) : State := { s with pc := t }

/-! ## The diagnostic channel -/

/-- `report D(info)` (60_exceptions.md R210): the diagnostic joins the output of the step, nothing else changes. This is
the one shared operation of every diagnostic; there is no trap entry and no return from one (R219, R220). -/
def State.report (s : State) (d : Diagnostic) : State := { s with diag := s.diag ++ [d] }

/-! ## The call stack (10_state.md R35 to R37) -/

/-- `Push(a)` (R36). -/
def State.push (s : State) (a : Addr) : State :=
  if h : s.sp.val < 8 then
    { s with stk := s.stk.set s.sp.val a, sp := ⟨s.sp.val + 1, by omega⟩ }
  else s.report .stackOverflow

/-- `Pop()` (R37): the address returned and the state after. On an empty stack it returns the program counter. -/
def State.pop (s : State) : Addr × State :=
  if h : 0 < s.sp.val then
    (s.stk[s.sp.val - 1]'(by omega), { s with sp := ⟨s.sp.val - 1, by omega⟩ })
  else (s.pc, s.report .stackUnderflow)

/-! ## Fetch and the start of a step -/

/-- `Fetch8()` (20_memory.md R55): the byte at pc, then pc advances, wrapping at 16383 (10_state.md R31). -/
def State.fetch8 (s : State) : Byte × State := (s.memRead s.pc, s.setPc (s.pc + 1#14))

/-- `Fetch16()` (R56): low byte first. -/
def State.fetch16 (s : State) : Word × State :=
  let lo := s.fetch8
  let hi := lo.2.fetch8
  (addrWord lo.1 hi.1, hi.2)

/-- The start of a step (70_reset_and_hazards.md R240): the halted latch is cleared; the output of the step is empty. -/
def State.beginStep (s : State) : State := { s with halted := false, diag := [] }

/-- The fetch of one instruction (R240; 30_encoding.md R70, R72): the opcode byte, then the operand bytes its length
asks for. The state after has pc past the last byte, as an instruction's action finds it (10_state.md R30, log 20). -/
def fetchInstr (s : State) : Instr × State :=
  let op := s.fetch8
  match instrLength op.1 with
  | 1 => (decodeOpcode op.1 0#8 0#16, op.2)
  | 2 =>
    let v := op.2.fetch8
    (decodeOpcode op.1 v.1 0#16, v.2)
  | _ =>
    let w := op.2.fetch16
    (decodeOpcode op.1 0#8 w.1, w.2)

end Sys2Proof.Machine
end

