-- ==== Sys2Proof/Machine/Operands.lean ====
section
/-! DEFINITION. Operand forms: the M pointer, operand read and write, the restart vector. -/

namespace Sys2Proof.Machine

/-- `MAddr() = H[5:0] :: L[7:0]` (10_state.md R25), derived on every use (R26). DEDUCED (log 2). -/
def State.maddr (s : State) : Addr := s.regs.h.extractLsb' 0 6 ++ s.regs.l

/-- `ReadSrc(c)` (R27). -/
def State.readSrc (s : State) : Operand → Byte
  | .reg r => s.reg r
  | .m => s.memRead s.maddr

/-- `WriteDst(c, v)` (R28). -/
def State.writeDst (s : State) (d : Operand) (v : Byte) : State :=
  match d with
  | .reg r => s.setReg r v
  | .m => s.memWrite s.maddr v

/-- The restart vector `8 * a` (30_encoding.md R77). -/
def restartVector (a : BitVec 3) : Addr := 0b00000000#8 ++ a ++ 0b000#3

end Sys2Proof.Machine
end

