-- ==== Sys2Proof/Machine/Flags.lean ====
section
/-! DEFINITION. The ALU and flag unit (40_alu_flag_unit.md) and the condition test (30_encoding.md R80). Operands are
taken as naturals, the exact result is formed, then narrowed. -/

namespace Sys2Proof.Machine

/-- The number of 1 bits of a byte. -/
def popcount (v : Byte) : Nat :=
  (v.getLsbD 0).toNat + (v.getLsbD 1).toNat + (v.getLsbD 2).toNat + (v.getLsbD 3).toNat
    + (v.getLsbD 4).toNat + (v.getLsbD 5).toNat + (v.getLsbD 6).toNat + (v.getLsbD 7).toNat

/-- `SetSZP(v)` (R100): sign, zero and even parity of `v`; carry is not touched. -/
def setSZP (v : Byte) (f : Flags) : Flags :=
  { f with fs := v.getLsbD 7, fz := decide (v = 0#8), fp := decide (popcount v % 2 = 0) }

/-- Add (R102): the sum modulo 256, and whether it exceeds 255. -/
def aluAdd (a v : Byte) : Byte × Bool :=
  let t := a.toNat + v.toNat
  (BitVec.ofNat 8 t, decide (255 < t))

/-- Add with carry (R103). DEDUCED: the carry is a third addend and counts toward the carry out (log 7). -/
def aluAdc (a v : Byte) (cin : Bool) : Byte × Bool :=
  let t := a.toNat + v.toNat + cin.toNat
  (BitVec.ofNat 8 t, decide (255 < t))

/-- Subtract (R104): the difference modulo 256, and the borrow. -/
def aluSub (a v : Byte) : Byte × Bool :=
  (BitVec.ofInt 8 ((a.toNat : Int) - (v.toNat : Int)), decide (a.toNat < v.toNat))

/-- Subtract with borrow (R105). DEDUCED: the subtrahend is `v + cin` throughout (log 7). -/
def aluSbb (a v : Byte) (cin : Bool) : Byte × Bool :=
  let s := v.toNat + cin.toNat
  (BitVec.ofInt 8 ((a.toNat : Int) - (s : Int)), decide (a.toNat < s))

/-- Result and carry out of the eight operations (R102 to R109); compare forms the difference (R109), and its carry
out and that of the logic operations is 0. -/
def aluResult (p : AluOp) (a v : Byte) (cin : Bool) : Byte × Bool :=
  match p with
  | .add => aluAdd a v
  | .adc => aluAdc a v cin
  | .sub => aluSub a v
  | .sbb => aluSbb a v cin
  | .ana => (a &&& v, false)
  | .xra => (a ^^^ v, false)
  | .ora => (a ||| v, false)
  | .cmp => ((aluSub a v).1, false)

/-- The carry latch after an ALU instruction (R110): compare with an immediate leaves it. DEDUCED for CPI (log 8). -/
def aluCarry (p : AluOp) (form : AluForm) (cout old : Bool) : Bool :=
  match p, form with
  | .cmp, .imm => old
  | _, _ => cout

/-- The accumulator after an ALU instruction (R110): compare does not store. -/
def aluAcc (p : AluOp) (res old : Byte) : Byte :=
  match p with
  | .cmp => old
  | _ => res

/-- `AluExec(ppp, v, form)` (R110). -/
def aluExec (p : AluOp) (v : Byte) (form : AluForm) (s : State) : State :=
  let r := aluResult p s.regs.a v s.flags.fc
  { s.setReg .a (aluAcc p r.1 s.regs.a) with
    flags := { setSZP r.1 s.flags with fc := aluCarry p form r.2 s.flags.fc } }

/-- `Inc(v) = mod256(v + 1)` (R111). -/
def inc8 (v : Byte) : Byte := BitVec.ofNat 8 (v.toNat + 1)

/-- `Dec(v) = mod256(v - 1)` (R112). -/
def dec8 (v : Byte) : Byte := BitVec.ofInt 8 ((v.toNat : Int) - 1)

/-- The four rotates (R113): the new accumulator and the new carry. -/
def rotate8 (k : Rotate) (a : Byte) (cin : Bool) : Byte × Bool :=
  match k with
  | .rlc => (a.extractLsb' 0 7 ++ a.extractLsb' 7 1, a.getLsbD 7)
  | .rrc => (a.extractLsb' 0 1 ++ a.extractLsb' 1 7, a.getLsbD 0)
  | .ral => (a.extractLsb' 0 7 ++ BitVec.ofBool cin, a.getLsbD 7)
  | .rar => (BitVec.ofBool cin ++ a.extractLsb' 1 7, a.getLsbD 0)

/-- The latch a selector code names (30_encoding.md R80). -/
def flagValue (n : FlagName) (f : Flags) : Bool :=
  match n with
  | .carry => f.fc
  | .zero => f.fz
  | .sign => f.fs
  | .parity => f.fp

/-- `Cond(k)`: the selected flag equals the sense bit (R80). -/
def condHolds (k : Cond) (f : Flags) : Bool := flagValue k.flag f == k.sense

end Sys2Proof.Machine
end

