-- ==== Sys2Proof/Machine/AluImmediate.lean ====
section
/-! DEFINITION. ALU operations with an immediate operand (41_group00_register_immediate_control.md R124 to R132). -/

namespace Sys2Proof.Machine

/-- The common action (R124): the operand is the immediate byte. -/
def aluImmediate (p : AluOp) (v : Byte) (s : State) : State := aluExec p v .imm s

/-- R125: ADI imm, `00000100`. -/
def execAdi (v : Byte) (s : State) : Result := .next (aluImmediate .add v s)

/-- R126: ACI imm, `00001100`. -/
def execAci (v : Byte) (s : State) : Result := .next (aluImmediate .adc v s)

/-- R127: SUI imm, `00010100`. -/
def execSui (v : Byte) (s : State) : Result := .next (aluImmediate .sub v s)

/-- R128: SBI imm, `00011100`. -/
def execSbi (v : Byte) (s : State) : Result := .next (aluImmediate .sbb v s)

/-- R129: ANI imm, `00100100`. -/
def execAni (v : Byte) (s : State) : Result := .next (aluImmediate .ana v s)

/-- R130: XRI imm, `00101100`. -/
def execXri (v : Byte) (s : State) : Result := .next (aluImmediate .xra v s)

/-- R131: ORI imm, `00110100`. -/
def execOri (v : Byte) (s : State) : Result := .next (aluImmediate .ora v s)

/-- R132: CPI imm, `00111100`. -/
def execCpi (v : Byte) (s : State) : Result := .next (aluImmediate .cmp v s)

end Sys2Proof.Machine
end

