-- ==== Sys2Proof/Machine/AluRegister.lean ====
section
/-! DEFINITION. ALU operations with a register or memory operand (44_group10_alu_register_memory.md R175 to R191). -/

namespace Sys2Proof.Machine

/-- The common action (R175): the operand is read, a cell or memory at M, before A is written. -/
def aluRegMem (p : AluOp) (o : Operand) (s : State) : State := aluExec p (s.readSrc o) .regmem s

/-- R176: ADD A, `10000000`. -/
def execAddA (s : State) : Result := .next (aluRegMem .add (.reg .a) s)

/-- R176: ADD B, `10000001`. -/
def execAddB (s : State) : Result := .next (aluRegMem .add (.reg .b) s)

/-- R176: ADD C, `10000010`. -/
def execAddC (s : State) : Result := .next (aluRegMem .add (.reg .c) s)

/-- R176: ADD D, `10000011`. -/
def execAddD (s : State) : Result := .next (aluRegMem .add (.reg .d) s)

/-- R176: ADD E, `10000100`. -/
def execAddE (s : State) : Result := .next (aluRegMem .add (.reg .e) s)

/-- R176: ADD H, `10000101`. -/
def execAddH (s : State) : Result := .next (aluRegMem .add (.reg .h) s)

/-- R176: ADD L, `10000110`. -/
def execAddL (s : State) : Result := .next (aluRegMem .add (.reg .l) s)

/-- R177: ADD M, `10000111`. -/
def execAddM (s : State) : Result := .next (aluRegMem .add .m s)

/-- R178: ADC A, `10001000`. -/
def execAdcA (s : State) : Result := .next (aluRegMem .adc (.reg .a) s)

/-- R178: ADC B, `10001001`. -/
def execAdcB (s : State) : Result := .next (aluRegMem .adc (.reg .b) s)

/-- R178: ADC C, `10001010`. -/
def execAdcC (s : State) : Result := .next (aluRegMem .adc (.reg .c) s)

/-- R178: ADC D, `10001011`. -/
def execAdcD (s : State) : Result := .next (aluRegMem .adc (.reg .d) s)

/-- R178: ADC E, `10001100`. -/
def execAdcE (s : State) : Result := .next (aluRegMem .adc (.reg .e) s)

/-- R178: ADC H, `10001101`. -/
def execAdcH (s : State) : Result := .next (aluRegMem .adc (.reg .h) s)

/-- R178: ADC L, `10001110`. -/
def execAdcL (s : State) : Result := .next (aluRegMem .adc (.reg .l) s)

/-- R179: ADC M, `10001111`. -/
def execAdcM (s : State) : Result := .next (aluRegMem .adc .m s)

/-- R180: SUB A, `10010000`. -/
def execSubA (s : State) : Result := .next (aluRegMem .sub (.reg .a) s)

/-- R180: SUB B, `10010001`. -/
def execSubB (s : State) : Result := .next (aluRegMem .sub (.reg .b) s)

/-- R180: SUB C, `10010010`. -/
def execSubC (s : State) : Result := .next (aluRegMem .sub (.reg .c) s)

/-- R180: SUB D, `10010011`. -/
def execSubD (s : State) : Result := .next (aluRegMem .sub (.reg .d) s)

/-- R180: SUB E, `10010100`. -/
def execSubE (s : State) : Result := .next (aluRegMem .sub (.reg .e) s)

/-- R180: SUB H, `10010101`. -/
def execSubH (s : State) : Result := .next (aluRegMem .sub (.reg .h) s)

/-- R180: SUB L, `10010110`. -/
def execSubL (s : State) : Result := .next (aluRegMem .sub (.reg .l) s)

/-- R181: SUB M, `10010111`. -/
def execSubM (s : State) : Result := .next (aluRegMem .sub .m s)

/-- R182: SBB A, `10011000`. -/
def execSbbA (s : State) : Result := .next (aluRegMem .sbb (.reg .a) s)

/-- R182: SBB B, `10011001`. -/
def execSbbB (s : State) : Result := .next (aluRegMem .sbb (.reg .b) s)

/-- R182: SBB C, `10011010`. -/
def execSbbC (s : State) : Result := .next (aluRegMem .sbb (.reg .c) s)

/-- R182: SBB D, `10011011`. -/
def execSbbD (s : State) : Result := .next (aluRegMem .sbb (.reg .d) s)

/-- R182: SBB E, `10011100`. -/
def execSbbE (s : State) : Result := .next (aluRegMem .sbb (.reg .e) s)

/-- R182: SBB H, `10011101`. -/
def execSbbH (s : State) : Result := .next (aluRegMem .sbb (.reg .h) s)

/-- R182: SBB L, `10011110`. -/
def execSbbL (s : State) : Result := .next (aluRegMem .sbb (.reg .l) s)

/-- R183: SBB M, `10011111`. -/
def execSbbM (s : State) : Result := .next (aluRegMem .sbb .m s)

/-- R184: ANA A, `10100000`. -/
def execAnaA (s : State) : Result := .next (aluRegMem .ana (.reg .a) s)

/-- R184: ANA B, `10100001`. -/
def execAnaB (s : State) : Result := .next (aluRegMem .ana (.reg .b) s)

/-- R184: ANA C, `10100010`. -/
def execAnaC (s : State) : Result := .next (aluRegMem .ana (.reg .c) s)

/-- R184: ANA D, `10100011`. -/
def execAnaD (s : State) : Result := .next (aluRegMem .ana (.reg .d) s)

/-- R184: ANA E, `10100100`. -/
def execAnaE (s : State) : Result := .next (aluRegMem .ana (.reg .e) s)

/-- R184: ANA H, `10100101`. -/
def execAnaH (s : State) : Result := .next (aluRegMem .ana (.reg .h) s)

/-- R184: ANA L, `10100110`. -/
def execAnaL (s : State) : Result := .next (aluRegMem .ana (.reg .l) s)

/-- R185: ANA M, `10100111`. -/
def execAnaM (s : State) : Result := .next (aluRegMem .ana .m s)

/-- R186: XRA A, `10101000`. -/
def execXraA (s : State) : Result := .next (aluRegMem .xra (.reg .a) s)

/-- R186: XRA B, `10101001`. -/
def execXraB (s : State) : Result := .next (aluRegMem .xra (.reg .b) s)

/-- R186: XRA C, `10101010`. -/
def execXraC (s : State) : Result := .next (aluRegMem .xra (.reg .c) s)

/-- R186: XRA D, `10101011`. -/
def execXraD (s : State) : Result := .next (aluRegMem .xra (.reg .d) s)

/-- R186: XRA E, `10101100`. -/
def execXraE (s : State) : Result := .next (aluRegMem .xra (.reg .e) s)

/-- R186: XRA H, `10101101`. -/
def execXraH (s : State) : Result := .next (aluRegMem .xra (.reg .h) s)

/-- R186: XRA L, `10101110`. -/
def execXraL (s : State) : Result := .next (aluRegMem .xra (.reg .l) s)

/-- R187: XRA M, `10101111`. -/
def execXraM (s : State) : Result := .next (aluRegMem .xra .m s)

/-- R188: ORA A, `10110000`. -/
def execOraA (s : State) : Result := .next (aluRegMem .ora (.reg .a) s)

/-- R188: ORA B, `10110001`. -/
def execOraB (s : State) : Result := .next (aluRegMem .ora (.reg .b) s)

/-- R188: ORA C, `10110010`. -/
def execOraC (s : State) : Result := .next (aluRegMem .ora (.reg .c) s)

/-- R188: ORA D, `10110011`. -/
def execOraD (s : State) : Result := .next (aluRegMem .ora (.reg .d) s)

/-- R188: ORA E, `10110100`. -/
def execOraE (s : State) : Result := .next (aluRegMem .ora (.reg .e) s)

/-- R188: ORA H, `10110101`. -/
def execOraH (s : State) : Result := .next (aluRegMem .ora (.reg .h) s)

/-- R188: ORA L, `10110110`. -/
def execOraL (s : State) : Result := .next (aluRegMem .ora (.reg .l) s)

/-- R189: ORA M, `10110111`. -/
def execOraM (s : State) : Result := .next (aluRegMem .ora .m s)

/-- R190: CMP A, `10111000`. -/
def execCmpA (s : State) : Result := .next (aluRegMem .cmp (.reg .a) s)

/-- R190: CMP B, `10111001`. -/
def execCmpB (s : State) : Result := .next (aluRegMem .cmp (.reg .b) s)

/-- R190: CMP C, `10111010`. -/
def execCmpC (s : State) : Result := .next (aluRegMem .cmp (.reg .c) s)

/-- R190: CMP D, `10111011`. -/
def execCmpD (s : State) : Result := .next (aluRegMem .cmp (.reg .d) s)

/-- R190: CMP E, `10111100`. -/
def execCmpE (s : State) : Result := .next (aluRegMem .cmp (.reg .e) s)

/-- R190: CMP H, `10111101`. -/
def execCmpH (s : State) : Result := .next (aluRegMem .cmp (.reg .h) s)

/-- R190: CMP L, `10111110`. -/
def execCmpL (s : State) : Result := .next (aluRegMem .cmp (.reg .l) s)

/-- R191: CMP M, `10111111`. -/
def execCmpM (s : State) : Result := .next (aluRegMem .cmp .m s)

end Sys2Proof.Machine
end

