-- ==== Sys2Proof/Machine/Call.lean ====
section
/-! DEFINITION. Call and conditional call (43_group01_jump_call_io.md R162, R163). -/

namespace Sys2Proof.Machine

/-- `Push(pc); pc <- mask14(w)` (R162). DEDUCED: the jump is made also when the push overflows (log 12). -/
def call (w : Word) (s : State) : State :=
  (s.push s.pc).setPc (mask14 w)

/-- The conditional call: the stack is touched only when the condition holds (R163). -/
def callIf (k : Cond) (w : Word) (s : State) : State :=
  if condHolds k s.flags then call w s else s

/-- R162: CALL addr, `01xxx110`, the bits x ignored (R81). -/
def execCall (_x : BitVec 3) (w : Word) (s : State) : Result := .next (call w s)

/-- R163: CFC addr, `01000010`. -/
def execCfc (w : Word) (s : State) : Result := .next (callIf ⟨.carry, false⟩ w s)

/-- R163: CFZ addr, `01001010`. -/
def execCfz (w : Word) (s : State) : Result := .next (callIf ⟨.zero, false⟩ w s)

/-- R163: CFS addr, `01010010`. -/
def execCfs (w : Word) (s : State) : Result := .next (callIf ⟨.sign, false⟩ w s)

/-- R163: CFP addr, `01011010`. -/
def execCfp (w : Word) (s : State) : Result := .next (callIf ⟨.parity, false⟩ w s)

/-- R163: CTC addr, `01100010`. -/
def execCtc (w : Word) (s : State) : Result := .next (callIf ⟨.carry, true⟩ w s)

/-- R163: CTZ addr, `01101010`. -/
def execCtz (w : Word) (s : State) : Result := .next (callIf ⟨.zero, true⟩ w s)

/-- R163: CTS addr, `01110010`. -/
def execCts (w : Word) (s : State) : Result := .next (callIf ⟨.sign, true⟩ w s)

/-- R163: CTP addr, `01111010`. -/
def execCtp (w : Word) (s : State) : Result := .next (callIf ⟨.parity, true⟩ w s)

end Sys2Proof.Machine
end

