-- ==== Sys2Proof/Machine/IncDec.lean ====
section
/-! DEFINITION. Increment and decrement of a register (41_group00_register_immediate_control.md R121, R122). -/

namespace Sys2Proof.Machine

/-- The common action of INR: the cell is incremented modulo 256, FS FZ FP follow the new value, FC keeps (R121). -/
def incReg (r : Reg) (s : State) : State :=
  let v := inc8 (s.reg r)
  { s.setReg r v with flags := setSZP v s.flags }

/-- The common action of DCR (R122). DEDUCED: 0x00 wraps to 0xFF (log 22). -/
def decReg (r : Reg) (s : State) : State :=
  let v := dec8 (s.reg r)
  { s.setReg r v with flags := setSZP v s.flags }

/-- R121: INR B, `00001000`. -/
def execInrB (s : State) : Result := .next (incReg .b s)

/-- R121: INR C, `00010000`. -/
def execInrC (s : State) : Result := .next (incReg .c s)

/-- R121: INR D, `00011000`. -/
def execInrD (s : State) : Result := .next (incReg .d s)

/-- R121: INR E, `00100000`. -/
def execInrE (s : State) : Result := .next (incReg .e s)

/-- R121: INR H, `00101000`. -/
def execInrH (s : State) : Result := .next (incReg .h s)

/-- R121: INR L, `00110000`. -/
def execInrL (s : State) : Result := .next (incReg .l s)

/-- R122: DCR B, `00001001`. -/
def execDcrB (s : State) : Result := .next (decReg .b s)

/-- R122: DCR C, `00010001`. -/
def execDcrC (s : State) : Result := .next (decReg .c s)

/-- R122: DCR D, `00011001`. -/
def execDcrD (s : State) : Result := .next (decReg .d s)

/-- R122: DCR E, `00100001`. -/
def execDcrE (s : State) : Result := .next (decReg .e s)

/-- R122: DCR H, `00101001`. -/
def execDcrH (s : State) : Result := .next (decReg .h s)

/-- R122: DCR L, `00110001`. -/
def execDcrL (s : State) : Result := .next (decReg .l s)

end Sys2Proof.Machine
end

