-- ==== Sys2Proof/Machine/Jump.lean ====
section
/-! DEFINITION. Jump and conditional jump (43_group01_jump_call_io.md R160, R161). -/

namespace Sys2Proof.Machine

/-- `pc <- mask14(w)` (R160). -/
def jump (w : Word) (s : State) : State := s.setPc (mask14 w)

/-- The conditional jump: not taken, pc stays past both address bytes (R161). -/
def jumpIf (k : Cond) (w : Word) (s : State) : State :=
  if condHolds k s.flags then jump w s else s

/-- R160: JMP addr, `01xxx100`, the bits x ignored (R81). -/
def execJmp (_x : BitVec 3) (w : Word) (s : State) : Result := .next (jump w s)

/-- R161: JFC addr, `01000000`. -/
def execJfc (w : Word) (s : State) : Result := .next (jumpIf ⟨.carry, false⟩ w s)

/-- R161: JFZ addr, `01001000`. -/
def execJfz (w : Word) (s : State) : Result := .next (jumpIf ⟨.zero, false⟩ w s)

/-- R161: JFS addr, `01010000`. -/
def execJfs (w : Word) (s : State) : Result := .next (jumpIf ⟨.sign, false⟩ w s)

/-- R161: JFP addr, `01011000`. -/
def execJfp (w : Word) (s : State) : Result := .next (jumpIf ⟨.parity, false⟩ w s)

/-- R161: JTC addr, `01100000`. -/
def execJtc (w : Word) (s : State) : Result := .next (jumpIf ⟨.carry, true⟩ w s)

/-- R161: JTZ addr, `01101000`. -/
def execJtz (w : Word) (s : State) : Result := .next (jumpIf ⟨.zero, true⟩ w s)

/-- R161: JTS addr, `01110000`. -/
def execJts (w : Word) (s : State) : Result := .next (jumpIf ⟨.sign, true⟩ w s)

/-- R161: JTP addr, `01111000`. -/
def execJtp (w : Word) (s : State) : Result := .next (jumpIf ⟨.parity, true⟩ w s)

end Sys2Proof.Machine
end

