-- ==== Sys2Proof/Machine/LoadImmediate.lean ====
section
/-! DEFINITION. Load immediate (41_group00_register_immediate_control.md R133, R134). -/

namespace Sys2Proof.Machine

/-- The common action: the immediate goes to the cell or to memory at M; no flag changes (R133, R134). -/
def loadImmediate (dst : Operand) (v : Byte) (s : State) : State := s.writeDst dst v

/-- R133: MVI A,imm, `00000110`. -/
def execMviA (v : Byte) (s : State) : Result := .next (loadImmediate (.reg .a) v s)

/-- R133: MVI B,imm, `00001110`. -/
def execMviB (v : Byte) (s : State) : Result := .next (loadImmediate (.reg .b) v s)

/-- R133: MVI C,imm, `00010110`. -/
def execMviC (v : Byte) (s : State) : Result := .next (loadImmediate (.reg .c) v s)

/-- R133: MVI D,imm, `00011110`. -/
def execMviD (v : Byte) (s : State) : Result := .next (loadImmediate (.reg .d) v s)

/-- R133: MVI E,imm, `00100110`. -/
def execMviE (v : Byte) (s : State) : Result := .next (loadImmediate (.reg .e) v s)

/-- R133: MVI H,imm, `00101110`. -/
def execMviH (v : Byte) (s : State) : Result := .next (loadImmediate (.reg .h) v s)

/-- R133: MVI L,imm, `00110110`. -/
def execMviL (v : Byte) (s : State) : Result := .next (loadImmediate (.reg .l) v s)

/-- R134: MVI M,imm, `00111110`. -/
def execMviM (v : Byte) (s : State) : Result := .next (loadImmediate .m v s)

end Sys2Proof.Machine
end

