-- ==== Sys2Proof/Machine/Move.lean ====
section
/-! DEFINITION. Moves between registers and memory (45_group11_move_halt.md R200 to R202). No move changes a flag. -/

namespace Sys2Proof.Machine

/-- `r[dst] <- r[src]` (R200). -/
def moveReg (dst src : Reg) (s : State) : State := s.setReg dst (s.reg src)

/-- `r[dst] <- MemRead(MAddr(), 1)` (R201): the address comes from the old H and L. -/
def loadReg (dst : Reg) (s : State) : State := s.setReg dst (s.readSrc .m)

/-- `MemWrite(MAddr(), 1, r[src])` (R202). -/
def storeReg (src : Reg) (s : State) : State := s.writeDst .m (s.reg src)

/-- R200: MOV A,A, `11000000`. -/
def execMovAA (s : State) : Result := .next (moveReg .a .a s)

/-- R200: MOV A,B, `11000001`. -/
def execMovAB (s : State) : Result := .next (moveReg .a .b s)

/-- R200: MOV A,C, `11000010`. -/
def execMovAC (s : State) : Result := .next (moveReg .a .c s)

/-- R200: MOV A,D, `11000011`. -/
def execMovAD (s : State) : Result := .next (moveReg .a .d s)

/-- R200: MOV A,E, `11000100`. -/
def execMovAE (s : State) : Result := .next (moveReg .a .e s)

/-- R200: MOV A,H, `11000101`. -/
def execMovAH (s : State) : Result := .next (moveReg .a .h s)

/-- R200: MOV A,L, `11000110`. -/
def execMovAL (s : State) : Result := .next (moveReg .a .l s)

/-- R201: MOV A,M, `11000111`. -/
def execMovAM (s : State) : Result := .next (loadReg .a s)

/-- R200: MOV B,A, `11001000`. -/
def execMovBA (s : State) : Result := .next (moveReg .b .a s)

/-- R200: MOV B,B, `11001001`. -/
def execMovBB (s : State) : Result := .next (moveReg .b .b s)

/-- R200: MOV B,C, `11001010`. -/
def execMovBC (s : State) : Result := .next (moveReg .b .c s)

/-- R200: MOV B,D, `11001011`. -/
def execMovBD (s : State) : Result := .next (moveReg .b .d s)

/-- R200: MOV B,E, `11001100`. -/
def execMovBE (s : State) : Result := .next (moveReg .b .e s)

/-- R200: MOV B,H, `11001101`. -/
def execMovBH (s : State) : Result := .next (moveReg .b .h s)

/-- R200: MOV B,L, `11001110`. -/
def execMovBL (s : State) : Result := .next (moveReg .b .l s)

/-- R201: MOV B,M, `11001111`. -/
def execMovBM (s : State) : Result := .next (loadReg .b s)

/-- R200: MOV C,A, `11010000`. -/
def execMovCA (s : State) : Result := .next (moveReg .c .a s)

/-- R200: MOV C,B, `11010001`. -/
def execMovCB (s : State) : Result := .next (moveReg .c .b s)

/-- R200: MOV C,C, `11010010`. -/
def execMovCC (s : State) : Result := .next (moveReg .c .c s)

/-- R200: MOV C,D, `11010011`. -/
def execMovCD (s : State) : Result := .next (moveReg .c .d s)

/-- R200: MOV C,E, `11010100`. -/
def execMovCE (s : State) : Result := .next (moveReg .c .e s)

/-- R200: MOV C,H, `11010101`. -/
def execMovCH (s : State) : Result := .next (moveReg .c .h s)

/-- R200: MOV C,L, `11010110`. -/
def execMovCL (s : State) : Result := .next (moveReg .c .l s)

/-- R201: MOV C,M, `11010111`. -/
def execMovCM (s : State) : Result := .next (loadReg .c s)

/-- R200: MOV D,A, `11011000`. -/
def execMovDA (s : State) : Result := .next (moveReg .d .a s)

/-- R200: MOV D,B, `11011001`. -/
def execMovDB (s : State) : Result := .next (moveReg .d .b s)

/-- R200: MOV D,C, `11011010`. -/
def execMovDC (s : State) : Result := .next (moveReg .d .c s)

/-- R200: MOV D,D, `11011011`. -/
def execMovDD (s : State) : Result := .next (moveReg .d .d s)

/-- R200: MOV D,E, `11011100`. -/
def execMovDE (s : State) : Result := .next (moveReg .d .e s)

/-- R200: MOV D,H, `11011101`. -/
def execMovDH (s : State) : Result := .next (moveReg .d .h s)

/-- R200: MOV D,L, `11011110`. -/
def execMovDL (s : State) : Result := .next (moveReg .d .l s)

/-- R201: MOV D,M, `11011111`. -/
def execMovDM (s : State) : Result := .next (loadReg .d s)

/-- R200: MOV E,A, `11100000`. -/
def execMovEA (s : State) : Result := .next (moveReg .e .a s)

/-- R200: MOV E,B, `11100001`. -/
def execMovEB (s : State) : Result := .next (moveReg .e .b s)

/-- R200: MOV E,C, `11100010`. -/
def execMovEC (s : State) : Result := .next (moveReg .e .c s)

/-- R200: MOV E,D, `11100011`. -/
def execMovED (s : State) : Result := .next (moveReg .e .d s)

/-- R200: MOV E,E, `11100100`. -/
def execMovEE (s : State) : Result := .next (moveReg .e .e s)

/-- R200: MOV E,H, `11100101`. -/
def execMovEH (s : State) : Result := .next (moveReg .e .h s)

/-- R200: MOV E,L, `11100110`. -/
def execMovEL (s : State) : Result := .next (moveReg .e .l s)

/-- R201: MOV E,M, `11100111`. -/
def execMovEM (s : State) : Result := .next (loadReg .e s)

/-- R200: MOV H,A, `11101000`. -/
def execMovHA (s : State) : Result := .next (moveReg .h .a s)

/-- R200: MOV H,B, `11101001`. -/
def execMovHB (s : State) : Result := .next (moveReg .h .b s)

/-- R200: MOV H,C, `11101010`. -/
def execMovHC (s : State) : Result := .next (moveReg .h .c s)

/-- R200: MOV H,D, `11101011`. -/
def execMovHD (s : State) : Result := .next (moveReg .h .d s)

/-- R200: MOV H,E, `11101100`. -/
def execMovHE (s : State) : Result := .next (moveReg .h .e s)

/-- R200: MOV H,H, `11101101`. -/
def execMovHH (s : State) : Result := .next (moveReg .h .h s)

/-- R200: MOV H,L, `11101110`. -/
def execMovHL (s : State) : Result := .next (moveReg .h .l s)

/-- R201: MOV H,M, `11101111`. -/
def execMovHM (s : State) : Result := .next (loadReg .h s)

/-- R200: MOV L,A, `11110000`. -/
def execMovLA (s : State) : Result := .next (moveReg .l .a s)

/-- R200: MOV L,B, `11110001`. -/
def execMovLB (s : State) : Result := .next (moveReg .l .b s)

/-- R200: MOV L,C, `11110010`. -/
def execMovLC (s : State) : Result := .next (moveReg .l .c s)

/-- R200: MOV L,D, `11110011`. -/
def execMovLD (s : State) : Result := .next (moveReg .l .d s)

/-- R200: MOV L,E, `11110100`. -/
def execMovLE (s : State) : Result := .next (moveReg .l .e s)

/-- R200: MOV L,H, `11110101`. -/
def execMovLH (s : State) : Result := .next (moveReg .l .h s)

/-- R200: MOV L,L, `11110110`. -/
def execMovLL (s : State) : Result := .next (moveReg .l .l s)

/-- R201: MOV L,M, `11110111`. -/
def execMovLM (s : State) : Result := .next (loadReg .l s)

/-- R202: MOV M,A, `11111000`. -/
def execMovMA (s : State) : Result := .next (storeReg .a s)

/-- R202: MOV M,B, `11111001`. -/
def execMovMB (s : State) : Result := .next (storeReg .b s)

/-- R202: MOV M,C, `11111010`. -/
def execMovMC (s : State) : Result := .next (storeReg .c s)

/-- R202: MOV M,D, `11111011`. -/
def execMovMD (s : State) : Result := .next (storeReg .d s)

/-- R202: MOV M,E, `11111100`. -/
def execMovME (s : State) : Result := .next (storeReg .e s)

/-- R202: MOV M,H, `11111101`. -/
def execMovMH (s : State) : Result := .next (storeReg .h s)

/-- R202: MOV M,L, `11111110`. -/
def execMovML (s : State) : Result := .next (storeReg .l s)

end Sys2Proof.Machine
end

