-- ==== Sys2Proof/Machine/Return.lean ====
section
/-! DEFINITION. Return, conditional return and restart (42_group00_return_restart.md R150 to R152). -/

namespace Sys2Proof.Machine

/-- `pc <- Pop()` (R150): on an empty stack the underflow is reported and pc keeps its already-advanced value. -/
def ret (s : State) : State :=
  let r := s.pop
  r.2.setPc r.1

/-- The conditional return: the stack is touched only when the condition holds (R151). -/
def retIf (k : Cond) (s : State) : State :=
  if condHolds k s.flags then ret s else s

/-- `Push(pc); pc <- 8 * a` (R152). DEDUCED: the transfer is made also when the push overflows (log 12). -/
def restart (a : BitVec 3) (s : State) : State :=
  (s.push s.pc).setPc (restartVector a)

/-- R150: RET, `00xxx111`, the bits x ignored (R81). -/
def execRet (_x : BitVec 3) (s : State) : Result := .next (ret s)

/-- R151: RFC, `00000011`. -/
def execRfc (s : State) : Result := .next (retIf ⟨.carry, false⟩ s)

/-- R151: RFZ, `00001011`. -/
def execRfz (s : State) : Result := .next (retIf ⟨.zero, false⟩ s)

/-- R151: RFS, `00010011`. -/
def execRfs (s : State) : Result := .next (retIf ⟨.sign, false⟩ s)

/-- R151: RFP, `00011011`. -/
def execRfp (s : State) : Result := .next (retIf ⟨.parity, false⟩ s)

/-- R151: RTC, `00100011`. -/
def execRtc (s : State) : Result := .next (retIf ⟨.carry, true⟩ s)

/-- R151: RTZ, `00101011`. -/
def execRtz (s : State) : Result := .next (retIf ⟨.zero, true⟩ s)

/-- R151: RTS, `00110011`. -/
def execRts (s : State) : Result := .next (retIf ⟨.sign, true⟩ s)

/-- R151: RTP, `00111011`. -/
def execRtp (s : State) : Result := .next (retIf ⟨.parity, true⟩ s)

/-- R152: RST 0, `00000101`, vector 0. -/
def execRst0 (s : State) : Result := .next (restart 0b000#3 s)

/-- R152: RST 1, `00001101`, vector 8. -/
def execRst1 (s : State) : Result := .next (restart 0b001#3 s)

/-- R152: RST 2, `00010101`, vector 16. -/
def execRst2 (s : State) : Result := .next (restart 0b010#3 s)

/-- R152: RST 3, `00011101`, vector 24. -/
def execRst3 (s : State) : Result := .next (restart 0b011#3 s)

/-- R152: RST 4, `00100101`, vector 32. -/
def execRst4 (s : State) : Result := .next (restart 0b100#3 s)

/-- R152: RST 5, `00101101`, vector 40. -/
def execRst5 (s : State) : Result := .next (restart 0b101#3 s)

/-- R152: RST 6, `00110101`, vector 48. -/
def execRst6 (s : State) : Result := .next (restart 0b110#3 s)

/-- R152: RST 7, `00111101`, vector 56. -/
def execRst7 (s : State) : Result := .next (restart 0b111#3 s)

end Sys2Proof.Machine
end

