-- ==== Sys2Proof/Machine/Rotate.lean ====
section
/-! DEFINITION. Rotates of the accumulator (41_group00_register_immediate_control.md R135 to R139). -/

namespace Sys2Proof.Machine

/-- The common action (R135; 40_alu_flag_unit.md R113): A and FC are written, then FS FZ FP from the new A. -/
def rotateAcc (k : Rotate) (s : State) : State :=
  let r := rotate8 k s.regs.a s.flags.fc
  { s.setReg .a r.1 with flags := { setSZP r.1 s.flags with fc := r.2 } }

/-- R136: RLC, `00000010`. -/
def execRlc (s : State) : Result := .next (rotateAcc .rlc s)

/-- R137: RRC, `00001010`. -/
def execRrc (s : State) : Result := .next (rotateAcc .rrc s)

/-- R138: RAL, `00010010`. -/
def execRal (s : State) : Result := .next (rotateAcc .ral s)

/-- R139: RAR, `00011010`. -/
def execRar (s : State) : Result := .next (rotateAcc .rar s)

end Sys2Proof.Machine
end

