-- ==== Sys2Proof/Machine/System.lean ====
section
/-! DEFINITION. Halt, the I/O placeholder and the unknown opcodes (R120, R203, R168, R123, R140). -/

namespace Sys2Proof.Machine

/-- `halted <- 1` (R120, R203). -/
def halt (s : State) : State := { s with halted := true }

/-- `report UnknownOpcode(op, n)` (R123, R140, R211): `n` is the address of the byte, one before the advanced pc. -/
def reportUnknown (op : Byte) (s : State) : State := s.report (.unknownOpcode op (s.pc - 1#14))

/-- R120, R203: HLT, bytes 0x00, 0x01, 0xFF. -/
def execHlt (_op : Byte) (s : State) : Result := .next (halt s)

/-- R123, R140, R211: the six unknown opcodes. -/
def execUnk (op : Byte) (s : State) : Result := .next (reportUnknown op s)

/-- R168: IOP, `01xxxxx1`: nothing happens, the bits x ignored (R81). -/
def execIop (_x : BitVec 5) (s : State) : Result := .next s

end Sys2Proof.Machine
end

