-- ==== Sys2Proof/Machine/Driver.lean ====
section
/-! DEFINITION. The driver's direct access between steps (70_reset_and_hazards.md R242 to R247). The queries are the
fields of State. No step calls anything of this file. -/

namespace Sys2Proof.Machine.Driver

/-- A request of the driver to overwrite one item, with the value as the driver gives it. There is none for a stack slot
or for `halted` (R243). -/
inductive Request where
  | setPc (v : Nat)
  | setReg (r : Reg) (v : Nat)
  | setFlag (n : FlagName) (v : Nat)
  | setSp (v : Nat)
  | writeMem (a v : Nat)
deriving DecidableEq, Repr

/-- Which requests are legal (R243). -/
def legal : Request → Bool
  | .setPc v => decide (v < 16384)
  | .setReg _ v => decide (v < 256)
  | .setFlag _ v => decide (v < 2)
  | .setSp v => decide (v ≤ 8)
  | .writeMem a v => decide (a < Config.memSize) && decide (v < 256)

/-- One latch overwritten. -/
def writeFlag (n : FlagName) (b : Bool) (f : Flags) : Flags :=
  match n with
  | .carry => { f with fc := b }
  | .zero => { f with fz := b }
  | .sign => { f with fs := b }
  | .parity => { f with fp := b }

/-- The write of a legal request: it takes effect at once and has no other effect (R243). -/
def write (q : Request) (s : State) : State :=
  match q with
  | .setPc v => s.setPc (BitVec.ofNat 14 v)
  | .setReg r v => s.setReg r (BitVec.ofNat 8 v)
  | .setFlag n v => { s with flags := writeFlag n (decide (v = 1)) s.flags }
  | .setSp v => { s with sp := Fin.ofNat 9 v }
  | .writeMem a v => s.memWrite (BitVec.ofNat 14 a) (BitVec.ofNat 8 v)

/-- What becomes of a request: an illegal one is rejected (`none`) and the core keeps its state (R243; 60_exceptions.md
R216). -/
def apply (q : Request) (s : State) : Option State := if legal q then some (write q s) else none

/-- The driver's read of any memory address (R242): an address outside the array is rejected. -/
def readMem (a : Nat) (s : State) : Option Byte :=
  if a < Config.memSize then some (s.memRead (BitVec.ofNat 14 a)) else none

/-- The load of a memory image: byte `i` becomes `mem[i]`; an image is the whole capacity (R246). DESIGN CHOICE (log 32):
an image of another length is rejected. -/
def loadImage (image : List Byte) (s : State) : Option State :=
  if image.length = Config.memSize then some (s.memWriteList 0#14 image) else none

/-- The dump of the memory image (R246). -/
def dumpImage (s : State) : List Byte := (List.range Config.memSize).map fun i => s.memRead (BitVec.ofNat 14 i)

end Sys2Proof.Machine.Driver
end

