-- ==== Sys2Proof/Machine/Step.lean ====
section
/-! DEFINITION. One step of the core, and the placing of an instruction where the step fetches it. -/

namespace Sys2Proof.Machine

/-- `step()` (70_reset_and_hazards.md R240): the latch is cleared, one instruction is fetched, its rule runs. -/
def step (s : State) : Host.Outcome State Fault Refusal :=
  exec (fetchInstr s.beginStep).1 (fetchInstr s.beginStep).2

/-- The state with the instruction of the word `w` (numbered as spec/opcode_table.json numbers it) stored at pc. -/
def State.withFetchWord (s : State) (nbits w : Nat) : State := s.memWriteList s.pc (tableBytes nbits w)

end Sys2Proof.Machine
end

