-- ==== Sys2Proof/Safety.lean ====
section
/-! DEFINITION. What claims are stated in: clean steps, runs to a halt, and the flags a result must leave. -/

namespace Sys2Proof.Safety

open Sys2Proof.Machine

/-- The last step emitted no diagnostic: the safety condition of 60_exceptions.md R210. -/
def clean (s : State) : Bool := s.diag.isEmpty

/-- The run from `s` (70_reset_and_hazards.md R248): steps up to and including the first after which `halted = 1`, at
most `fuel` of them. The answer is the state after that step and whether every step was clean; none where no step
halted within the fuel. -/
def runToHalt : Nat → State → Option (State × Bool)
  | 0, _ => none
  | fuel + 1, s =>
    match step s with
    | .next t =>
      if t.halted then some (t, clean t)
      else
        match runToHalt fuel t with
        | some (u, ok) => some (u, clean t && ok)
        | none => none
    | .fault _ => none
    | .refused _ => none

/-- The flags of an 8-bit result `v` with carry `c`, written as 10_state.md R33 and 40_alu_flag_unit.md R101 word them
(parity as the negated exclusive or of the eight bits), and not through the machine's own flag operation. -/
def flagsOf (v : Byte) (c : Bool) : Flags where
  fs := decide (128 ≤ v.toNat)
  fz := decide (v.toNat = 0)
  fp := !(v.getLsbD 7 ^^ v.getLsbD 6 ^^ v.getLsbD 5 ^^ v.getLsbD 4 ^^ v.getLsbD 3 ^^ v.getLsbD 2 ^^ v.getLsbD 1
    ^^ v.getLsbD 0)
  fc := c

/-- `t` differs from `s` at most in the program counter. -/
def sameButPc (s t : State) : Prop :=
  t.regs = s.regs ∧ t.flags = s.flags ∧ t.stk = s.stk ∧ t.sp = s.sp ∧ t.halted = s.halted ∧ t.diag = s.diag ∧
    ∀ a : Addr, t.memRead a = s.memRead a

end Sys2Proof.Safety
end

