-- ==== Sys2Proof/Certificates/Slice0/Obligations.lean ====
section
/-! DEFINITION. The statements for the provers. Each docstring names the rule of spec/ it formalises; where a clause
rests on a decision of the spec (92_eei_decisions.md) or on a choice of the model, it names the log entry. The families
of instructions are written through the builders of Decode.lean (`aluInstr .add (.reg .b)` is `Instr.addB`). -/

open Sys2Proof Sys2Proof.Machine Sys2Proof.Safety

/-! ## Reset -/

/-- 10_state.md, reset values: construction over any memory leaves the core at these values and the memory as it was.
The values of pc and the flags are the spec's decision D12 (log 11); `diag` is the model's own field (log 14); that
`State.reset` lists nothing is the model's choice (log 18). -/
def Obligations.ConstructionLeavesTheResetValues : Prop :=
  (∀ mem0 : Memory,
    (∀ r : Reg, (State.construct mem0).reg r = 0#8) ∧ (State.construct mem0).pc = 0#14 ∧
    (State.construct mem0).flags = { fs := false, fz := false, fp := false, fc := false } ∧
    (∀ i : Fin 8, (State.construct mem0).stk[i] = 0#14) ∧ (State.construct mem0).sp = 0 ∧
    (State.construct mem0).halted = true ∧ (State.construct mem0).mem = mem0 ∧ (State.construct mem0).diag = [] ∧
    (State.construct mem0).maddr = 0#14) ∧
  State.reset = State.construct []

/-! ## Memory -/

/-- The memory after reset is in canonical form (the model's representation, log 18). -/
def Obligations.ResetMemoryIsCanonical : Prop := State.reset.mem.wf = true

/-- Every step keeps the canonical form of memory, from every state that has it: addresses rising and inside the 16384
bytes of 20_memory.md R50, no cell equal to the unlisted byte (log 18). -/
def Obligations.StepKeepsMemoryCanonical : Prop :=
  ∀ s t : State, s.mem.wf = true → step s = .next t → t.mem.wf = true

/-- Two canonical memories that read the same at every address are the same list: the 16384 bytes of 20_memory.md R50
are held in exactly one way. -/
def Obligations.CanonicalMemoryIsDeterminedByItsBytes : Prop :=
  ∀ m n : Memory, m.wf = true → n.wf = true → (∀ a : Addr, m.read a = n.read a) → m = n

/-- 20_memory.md R52 and R53: a write changes the byte at its address, no other byte and no core state. -/
def Obligations.MemoryWriteChangesOneByte : Prop :=
  ∀ (s : State) (a : Addr) (v : Byte),
    (s.memWrite a v).memRead a = v ∧ (∀ b : Addr, b ≠ a → (s.memWrite a v).memRead b = s.memRead b) ∧
    (s.memWrite a v).regs = s.regs ∧ (s.memWrite a v).pc = s.pc ∧ (s.memWrite a v).flags = s.flags ∧
    (s.memWrite a v).stk = s.stk ∧ (s.memWrite a v).sp = s.sp ∧ (s.memWrite a v).halted = s.halted ∧
    (s.memWrite a v).diag = s.diag

/-- 20_memory.md, out-of-range access, and 60_exceptions.md (decision D24, log 17): an index outside the array is the
fault OutOfRangeMemoryAccess (with no index in it: log 30) of a bounds-checked access, never an access; an index of 14
bits never is one. -/
def Obligations.UnmaskedIndexFaults : Prop :=
  (∀ (m : Memory) (i : Nat) (v : Byte), 16384 ≤ i →
    m.readIndex i = .error .outOfRangeMemoryAccess ∧ m.writeIndex i v = .error .outOfRangeMemoryAccess) ∧
  (∀ (m : Memory) (a : Addr) (v : Byte), m.readIndex a.toNat = .ok (m.read a) ∧ m.writeIndex a.toNat v = .ok (m.write a v))

/-! ## Registers, operands, fetch -/

/-- 10_state.md R20: seven cells, one for each 3-bit code 000 to 110 (111 is memory); they do not alias and none is
hardwired: a cell reads back what was written to it, and a write changes no other cell and nothing else. -/
def Obligations.RegisterCellsAreIndependent : Prop :=
  (∀ code : BitVec 3, (code = 0b111#3 ∧ operandOfCode code = .m) ∨
    (code ≠ 0b111#3 ∧ ∃ r : Reg, operandOfCode code = .reg r ∧ r.code = code)) ∧
  ∀ (s : State) (r : Reg) (v : Byte),
    (s.setReg r v).reg r = v ∧ (∀ q : Reg, q ≠ r → (s.setReg r v).reg q = s.reg q) ∧
    (s.setReg r v).pc = s.pc ∧ (s.setReg r v).flags = s.flags ∧ (s.setReg r v).stk = s.stk ∧
    (s.setReg r v).sp = s.sp ∧ (s.setReg r v).halted = s.halted ∧ (s.setReg r v).mem = s.mem ∧
    (s.setReg r v).diag = s.diag

/-- 10_state.md R27 and R28: by its 3-bit code an operand is the cell of that code, and memory is neither read nor
written, or (code 111) the byte at MAddr(), and of the cells only H and L are read and none is written. -/
def Obligations.OperandIsACellOrTheByteAtM : Prop :=
  ∀ (s : State) (v : Byte) (c : BitVec 3),
    (c ≠ 0b111#3 → ∃ r : Reg, r.code = c ∧ s.readSrc (operandOfCode c) = s.reg r ∧
      s.writeDst (operandOfCode c) v = s.setReg r v ∧ (s.writeDst (operandOfCode c) v).mem = s.mem ∧
      ∀ m : Memory, ({ s with mem := m } : State).readSrc (operandOfCode c) = s.readSrc (operandOfCode c)) ∧
    (c = 0b111#3 → s.readSrc (operandOfCode c) = s.memRead s.maddr ∧
      s.writeDst (operandOfCode c) v = s.memWrite s.maddr v ∧ (s.writeDst (operandOfCode c) v).regs = s.regs ∧
      ∀ t : State, t.reg .h = s.reg .h → t.reg .l = s.reg .l → t.mem = s.mem →
        t.readSrc (operandOfCode c) = s.readSrc (operandOfCode c))

/-- 10_state.md, the M pointer (decision D2, log 2): MAddr() is (H mod 64) * 256 + L, the bits 7 and 6 of H take no part,
it is derived on every use, and a write to memory does not move it. -/
def Obligations.MPointerIsDerivedFromHAndL : Prop :=
  (∀ s : State, s.maddr.toNat = (s.reg .h).toNat % 64 * 256 + (s.reg .l).toNat) ∧
  (∀ (s : State) (v : Byte), (s.setReg .h v).maddr.toNat = v.toNat % 64 * 256 + (s.reg .l).toNat ∧
    (s.setReg .l v).maddr.toNat = (s.reg .h).toNat % 64 * 256 + v.toNat) ∧
  (∀ (s : State) (a : Addr) (v : Byte), (s.memWrite a v).maddr = s.maddr)

/-- 20_memory.md R55 and R56: Fetch8 returns the byte at pc and advances pc by 1, modulo 16384; Fetch16 takes the low
byte at the lower address. -/
def Obligations.FetchReadsAtPcAndAdvances : Prop :=
  ∀ s : State,
    s.fetch8 = (s.memRead s.pc, { s with pc := s.pc + 1#14 }) ∧
    (s.pc = 16383#14 → s.fetch8.2.pc = 0#14) ∧
    s.fetch16.1.toNat = (s.memRead (s.pc + 1#14)).toNat * 256 + (s.memRead s.pc).toNat ∧
    s.fetch16.2 = { s with pc := s.pc + 2#14 }

/-! ## The call stack -/

/-- 10_state.md R36: a push below capacity stores the address at sp and raises sp; at capacity it reports and changes
neither slots nor pointer. -/
def Obligations.PushStoresOrReportsOverflow : Prop :=
  ∀ (s : State) (a : Addr),
    (∀ h : s.sp.val < 8, s.push a = { s with stk := s.stk.set s.sp.val a, sp := ⟨s.sp.val + 1, by omega⟩ }) ∧
    (s.sp.val = 8 → s.push a = { s with diag := s.diag ++ [.stackOverflow] })

/-- 10_state.md R37: a pop lowers sp and returns the newest slot, which keeps its value; on an empty stack it reports
and returns the program counter. -/
def Obligations.PopReturnsNewestOrReportsUnderflow : Prop :=
  ∀ s : State,
    (∀ h : 0 < s.sp.val, s.pop =
      (s.stk[s.sp.val - 1]'(by omega), { s with sp := ⟨s.sp.val - 1, by omega⟩ })) ∧
    (s.sp.val = 0 → s.pop = (s.pc, { s with diag := s.diag ++ [.stackUnderflow] }))

/-- 10_state.md, section 5: pushing any 8 addresses onto an empty stack fills it in order and reports nothing, and a
9th push is rejected with the stack unchanged. -/
def Obligations.EightPushesFillTheStack : Prop :=
  ∀ (s : State) (l : List Addr) (a : Addr), s.sp.val = 0 → l.length = 8 →
    (l.foldl State.push s).sp.val = 8 ∧ (l.foldl State.push s).stk.toList = l ∧
    (l.foldl State.push s).diag = s.diag ∧
    ((l.foldl State.push s).push a).stk.toList = l ∧ ((l.foldl State.push s).push a).sp.val = 8 ∧
    ((l.foldl State.push s).push a).diag = s.diag ++ [.stackOverflow]

/-- 10_state.md, section 5, last in, first out: a pop after a push that was not rejected returns the address pushed,
with sp, every other slot and everything else as before the push. -/
def Obligations.PopUndoesPush : Prop :=
  ∀ (s : State) (a : Addr), s.sp.val < 8 →
    (s.push a).pop.1 = a ∧ (s.push a).pop.2.sp = s.sp ∧
    (∀ i : Fin 8, i.val ≠ s.sp.val → (s.push a).pop.2.stk[i] = s.stk[i]) ∧
    { (s.push a).pop.2 with stk := s.stk } = s

/-! ## The flag unit -/

/-- 40_alu_flag_unit.md R100 and R101: SetSZP writes sign, zero and parity from the value and leaves carry; parity is
the evenness of the number of 1 bits, equally the negated exclusive or of the eight bits (as `flagsOf` has it). -/
def Obligations.SetSZPWritesSignZeroParity : Prop :=
  ∀ (v : Byte) (f : Flags),
    setSZP v f = flagsOf v f.fc ∧
    (setSZP v f).fp = decide ((List.range 8).countP (fun i => v.getLsbD i) % 2 = 0)

/-! ## What each instruction does. In each, everything not written in the next state is unchanged. `exec` finds pc past
the instruction's last byte (10_state.md R30, log 20). -/

/-- Halt (41_group00_register_immediate_control.md, 45_group11_move_halt.md): the three halt bytes decode to HLT, and HLT
sets the latch and changes nothing else; pc stays past the byte (decision D10, log 9). -/
def Obligations.HaltSetsTheLatch : Prop :=
  (∀ rest : List Byte, decode (0x00#8 :: rest) = .ok (.hlt 0x00#8, rest) ∧
    decode (0x01#8 :: rest) = .ok (.hlt 0x01#8, rest) ∧ decode (0xFF#8 :: rest) = .ok (.hlt 0xFF#8, rest)) ∧
  (∀ (op : Byte) (s : State), exec (.hlt op) s = .next { s with halted := true })

/-- 40_alu_flag_unit.md R111: INR writes the cell's value plus one modulo 256 and the flags of it; carry is kept; 0xFF
gives 0x00 with zero true, sign false, parity true. -/
def Obligations.IncrementResult : Prop :=
  (∀ (r : CountReg) (s : State), exec (inrInstr r) s =
    .next { s.setReg r.toReg (s.reg r.toReg + 1#8) with flags := flagsOf (s.reg r.toReg + 1#8) s.flags.fc }) ∧
  (∀ (r : CountReg) (s : State), s.reg r.toReg = 0xFF#8 → exec (inrInstr r) s =
    .next { s.setReg r.toReg 0x00#8 with flags := { fs := false, fz := true, fp := true, fc := s.flags.fc } })

/-- Decrement (40_alu_flag_unit.md; the wrap of 0x00 to 0xFF is decision D27, log 22): DCR writes the cell's value minus
one modulo 256 and the flags of it; carry is kept. -/
def Obligations.DecrementResult : Prop :=
  (∀ (r : CountReg) (s : State), exec (dcrInstr r) s =
    .next { s.setReg r.toReg (s.reg r.toReg - 1#8) with flags := flagsOf (s.reg r.toReg - 1#8) s.flags.fc }) ∧
  (∀ (r : CountReg) (s : State), s.reg r.toReg = 0x00#8 → exec (dcrInstr r) s =
    .next { s.setReg r.toReg 0xFF#8 with flags := { fs := true, fz := false, fp := true, fc := s.flags.fc } })

/-- 40_alu_flag_unit.md R102: ADI, ADD s and ADD M write the sum modulo 256; carry is set exactly when the unsigned sum
exceeds 255; the old carry is not read. -/
def Obligations.AddResult : Prop :=
  (∀ (v : Byte) (s : State), exec (.adi v) s =
    .next { s with
      regs := { s.regs with a := s.regs.a + v }
      flags := flagsOf (s.regs.a + v) (decide (255 < s.regs.a.toNat + v.toNat)) }) ∧
  (∀ (o : Operand) (s : State), exec (aluInstr .add o) s =
    .next { s with
      regs := { s.regs with a := s.regs.a + s.readSrc o }
      flags := flagsOf (s.regs.a + s.readSrc o) (decide (255 < s.regs.a.toNat + (s.readSrc o).toNat)) })

/-- Add with carry and subtract with borrow (40_alu_flag_unit.md; that carry is the third addend and counts in the carry
out, and that the subtrahend is the operand plus carry throughout, is decision D8, log 7): ACI, ADC s, ADC M; SBI, SBB s,
SBB M. -/
def Obligations.CarryChainResult : Prop :=
  (∀ (v : Byte) (s : State),
    exec (.aci v) s = .next { s with
      regs := { s.regs with a := s.regs.a + v + (BitVec.ofBool s.flags.fc).setWidth 8 }
      flags := flagsOf (s.regs.a + v + (BitVec.ofBool s.flags.fc).setWidth 8)
        (decide (255 < s.regs.a.toNat + v.toNat + s.flags.fc.toNat)) } ∧
    exec (.sbi v) s = .next { s with
      regs := { s.regs with a := s.regs.a - v - (BitVec.ofBool s.flags.fc).setWidth 8 }
      flags := flagsOf (s.regs.a - v - (BitVec.ofBool s.flags.fc).setWidth 8)
        (decide (s.regs.a.toNat < v.toNat + s.flags.fc.toNat)) }) ∧
  (∀ (o : Operand) (s : State),
    exec (aluInstr .adc o) s = .next { s with
      regs := { s.regs with a := s.regs.a + s.readSrc o + (BitVec.ofBool s.flags.fc).setWidth 8 }
      flags := flagsOf (s.regs.a + s.readSrc o + (BitVec.ofBool s.flags.fc).setWidth 8)
        (decide (255 < s.regs.a.toNat + (s.readSrc o).toNat + s.flags.fc.toNat)) } ∧
    exec (aluInstr .sbb o) s = .next { s with
      regs := { s.regs with a := s.regs.a - s.readSrc o - (BitVec.ofBool s.flags.fc).setWidth 8 }
      flags := flagsOf (s.regs.a - s.readSrc o - (BitVec.ofBool s.flags.fc).setWidth 8)
        (decide (s.regs.a.toNat < (s.readSrc o).toNat + s.flags.fc.toNat)) })

/-- 40_alu_flag_unit.md R104: SUI, SUB s and SUB M write the difference modulo 256; carry is the borrow, set exactly when
the minuend is less than the subtrahend; the old carry is not read. -/
def Obligations.SubtractResult : Prop :=
  (∀ (v : Byte) (s : State), exec (.sui v) s =
    .next { s with
      regs := { s.regs with a := s.regs.a - v }
      flags := flagsOf (s.regs.a - v) (decide (s.regs.a.toNat < v.toNat)) }) ∧
  (∀ (o : Operand) (s : State), exec (aluInstr .sub o) s =
    .next { s with
      regs := { s.regs with a := s.regs.a - s.readSrc o }
      flags := flagsOf (s.regs.a - s.readSrc o) (decide (s.regs.a.toNat < (s.readSrc o).toNat)) })

/-- 40_alu_flag_unit.md R106, R107 and R108: AND, XOR and OR, with an immediate, a register or M, work bit by bit and
clear carry; XRA A clears A and sets zero and parity. R109, R190 and R191: compare with a register or M clears carry too,
and writes only flags. Compare with an immediate does not (90_conflicts.md C3, log 8): that form is
CompareImmediateKeepsCarry, and not this statement. -/
def Obligations.LogicAndCompareClearCarry : Prop :=
  (∀ (v : Byte) (s : State),
    exec (.ani v) s =
      .next { s with regs := { s.regs with a := s.regs.a &&& v }, flags := flagsOf (s.regs.a &&& v) false } ∧
    exec (.xri v) s =
      .next { s with regs := { s.regs with a := s.regs.a ^^^ v }, flags := flagsOf (s.regs.a ^^^ v) false } ∧
    exec (.ori v) s =
      .next { s with regs := { s.regs with a := s.regs.a ||| v }, flags := flagsOf (s.regs.a ||| v) false }) ∧
  (∀ (o : Operand) (s : State),
    exec (aluInstr .ana o) s =
      .next { s with
        regs := { s.regs with a := s.regs.a &&& s.readSrc o }, flags := flagsOf (s.regs.a &&& s.readSrc o) false } ∧
    exec (aluInstr .xra o) s =
      .next { s with
        regs := { s.regs with a := s.regs.a ^^^ s.readSrc o }, flags := flagsOf (s.regs.a ^^^ s.readSrc o) false } ∧
    exec (aluInstr .ora o) s =
      .next { s with
        regs := { s.regs with a := s.regs.a ||| s.readSrc o }, flags := flagsOf (s.regs.a ||| s.readSrc o) false } ∧
    exec (aluInstr .cmp o) s = .next { s with flags := flagsOf (s.regs.a - s.readSrc o) false }) ∧
  (∀ s : State, exec .xraA s = .next { s with
    regs := { s.regs with a := 0x00#8 }, flags := { fs := false, fz := true, fp := true, fc := false } })

/-- Compare with an immediate (40_alu_flag_unit.md, 41_group00_register_immediate_control.md): CPI writes sign, zero and
parity of the difference, keeps A, and leaves carry as it was (decision D9, conflict C3, log 8). -/
def Obligations.CompareImmediateKeepsCarry : Prop :=
  ∀ (v : Byte) (s : State), exec (.cpi v) s = .next { s with flags := flagsOf (s.regs.a - v) s.flags.fc }

/-- 40_alu_flag_unit.md R113: the four rotates, the bit evicted becoming carry and the flags those of the new A; nine RAL
or nine RAR restore A and carry, eight RLC or eight RRC restore A. -/
def Obligations.RotateResultsAndCycles : Prop :=
  (∀ s : State,
    exec .rlc s = .next { s with
      regs := { s.regs with a := s.regs.a.rotateLeft 1 }
      flags := flagsOf (s.regs.a.rotateLeft 1) (s.regs.a.getLsbD 7) } ∧
    exec .rrc s = .next { s with
      regs := { s.regs with a := s.regs.a.rotateRight 1 }
      flags := flagsOf (s.regs.a.rotateRight 1) (s.regs.a.getLsbD 0) } ∧
    exec .ral s = .next { s with
      regs := { s.regs with a := s.regs.a <<< 1 ||| (BitVec.ofBool s.flags.fc).setWidth 8 }
      flags := flagsOf (s.regs.a <<< 1 ||| (BitVec.ofBool s.flags.fc).setWidth 8) (s.regs.a.getLsbD 7) } ∧
    exec .rar s = .next { s with
      regs := { s.regs with a := s.regs.a >>> 1 ||| (BitVec.ofBool s.flags.fc).setWidth 8 <<< 7 }
      flags := flagsOf (s.regs.a >>> 1 ||| (BitVec.ofBool s.flags.fc).setWidth 8 <<< 7) (s.regs.a.getLsbD 0) }) ∧
  (∀ (a : Byte) (c : Bool),
    (fun p : Byte × Bool => rotate8 .ral p.1 p.2)^[9] (a, c) = (a, c) ∧
    (fun p : Byte × Bool => rotate8 .rar p.1 p.2)^[9] (a, c) = (a, c) ∧
    ((fun p : Byte × Bool => rotate8 .rlc p.1 p.2)^[8] (a, c)).1 = a ∧
    ((fun p : Byte × Bool => rotate8 .rrc p.1 p.2)^[8] (a, c)).1 = a)

/-- Immediate loads and moves into a cell (41_group00_register_immediate_control.md, 45_group11_move_halt.md): MVI d,imm
writes the immediate, MOV d,s the source's value, MOV d,M the byte at the address that H and L form before the move,
whichever cell is the destination (H and L included); no flag changes (decision D23, log 21); MOV d,d changes nothing. -/
def Obligations.LoadsAndMovesIntoARegister : Prop :=
  (∀ (r : Reg) (v : Byte) (s : State), exec (mviInstr (.reg r) v) s = .next (s.setReg r v)) ∧
  (∀ (r q : Reg) (s : State), exec (movInstr r q) s = .next (s.setReg r (s.reg q))) ∧
  (∀ (r : Reg) (s : State), exec (movInstr r r) s = .next s) ∧
  (∀ (r : Reg) (s : State), exec (movFromMInstr r) s = .next (s.setReg r (s.memRead s.maddr)))

/-- 41_group00_register_immediate_control.md R134: the byte 0x3E and an immediate decode to MVI M,imm, which stores the
immediate at MAddr() and changes nothing else. -/
def Obligations.LoadImmediateToMemory : Prop :=
  (∀ (v : Byte) (rest : List Byte), decode (0b00111110#8 :: v :: rest) = .ok (.mviM v, rest)) ∧
  (∀ (v : Byte) (s : State), exec (.mviM v) s = .next (s.memWrite s.maddr v))

/-- Store to memory (45_group11_move_halt.md): MOV M,s writes the cell's value at MAddr() and no register. -/
def Obligations.MoveToMemory : Prop :=
  ∀ (r : Reg) (s : State), exec (movToMInstr r) s = .next (s.memWrite s.maddr (s.reg r))

/-- 42_group00_return_restart.md R150: every byte `00xxx111` decodes to RET, which pops into pc, and on an empty stack
reports StackUnderflow and leaves pc past the return byte. -/
def Obligations.ReturnResult : Prop :=
  (∀ (x : BitVec 3) (rest : List Byte), decode (opcodeByte 0b00#2 x 0b111#3 :: rest) = .ok (.ret x, rest)) ∧
  (∀ (x : BitVec 3) (s : State) (h : 0 < s.sp.val), exec (.ret x) s =
    .next { s with sp := ⟨s.sp.val - 1, by omega⟩, pc := s.stk[s.sp.val - 1]'(by omega) }) ∧
  (∀ (x : BitVec 3) (s : State), s.sp.val = 0 →
    exec (.ret x) s = .next { s with diag := s.diag ++ [.stackUnderflow] })

/-- Conditional return (42_group00_return_restart.md; selector codes and sense are decisions D4 and D5, log 4): it acts
as RET when the condition holds, and otherwise changes nothing, stack and diagnostics included. -/
def Obligations.ConditionalReturnResult : Prop :=
  ∀ (k : Cond) (s : State),
    (flagValue k.flag s.flags = k.sense → exec (retIfInstr k) s = exec (.ret 0b000#3) s ∧
      ∃ t, exec (retIfInstr k) s = .next t) ∧
    (flagValue k.flag s.flags ≠ k.sense → exec (retIfInstr k) s = .next s)

/-- Restart (42_group00_return_restart.md): RST a saves pc on the stack and goes to 8 * a; with the stack full it reports
StackOverflow, discards the push and still goes there (decision D13, log 12). -/
def Obligations.RestartResult : Prop :=
  ∀ (a : BitVec 3) (s : State),
    (∀ h : s.sp.val < 8, exec (rstInstr a) s =
      .next { s with
        stk := s.stk.set s.sp.val s.pc, sp := ⟨s.sp.val + 1, by omega⟩, pc := BitVec.ofNat 14 (8 * a.toNat) }) ∧
    (s.sp.val = 8 → exec (rstInstr a) s =
      .next { s with diag := s.diag ++ [.stackOverflow], pc := BitVec.ofNat 14 (8 * a.toNat) })

/-- 43_group01_jump_call_io.md R160 and 30_encoding.md R79: every byte `01xxx100` with two operand bytes decodes to JMP
with the little-endian word, and JMP sets pc to that word modulo 16384, so bits 7:6 of the high byte are ignored. -/
def Obligations.JumpResult : Prop :=
  (∀ (x : BitVec 3) (lo hi : Byte) (rest : List Byte),
    decode (opcodeByte 0b01#2 x 0b100#3 :: lo :: hi :: rest) = .ok (.jmp x (hi ++ lo), rest)) ∧
  (∀ (x : BitVec 3) (lo hi : Byte) (s : State), exec (.jmp x (hi ++ lo)) s =
    .next { s with pc := BitVec.ofNat 14 ((hi.toNat * 256 + lo.toNat) % 16384) })

/-- Conditional jump (43_group01_jump_call_io.md; D4 and D5, log 4): to the target modulo 16384 when the condition
holds; otherwise nothing changes and pc stays past both address bytes. -/
def Obligations.ConditionalJumpResult : Prop :=
  ∀ (k : Cond) (w : Word) (s : State),
    (flagValue k.flag s.flags = k.sense →
      exec (jumpIfInstr k w) s = .next { s with pc := BitVec.ofNat 14 (w.toNat % 16384) }) ∧
    (flagValue k.flag s.flags ≠ k.sense → exec (jumpIfInstr k w) s = .next s)

/-- Call (43_group01_jump_call_io.md): the address past the third byte is saved, then pc takes the target; with the
stack full the overflow is reported, the push discarded, the jump made (decision D13, log 12). -/
def Obligations.CallResult : Prop :=
  ∀ (x : BitVec 3) (w : Word) (s : State),
    (∀ h : s.sp.val < 8, exec (.call x w) s =
      .next { s with
        stk := s.stk.set s.sp.val s.pc, sp := ⟨s.sp.val + 1, by omega⟩, pc := BitVec.ofNat 14 (w.toNat % 16384) }) ∧
    (s.sp.val = 8 → exec (.call x w) s =
      .next { s with diag := s.diag ++ [.stackOverflow], pc := BitVec.ofNat 14 (w.toNat % 16384) })

/-- Conditional call (43_group01_jump_call_io.md; D4, D5, D13, logs 4 and 12): it acts as CALL when the condition holds,
and otherwise changes nothing, a full stack included. -/
def Obligations.ConditionalCallResult : Prop :=
  ∀ (k : Cond) (w : Word) (s : State),
    (flagValue k.flag s.flags = k.sense → exec (callIfInstr k w) s = exec (.call 0b000#3 w) s ∧
      ∃ t, exec (callIfInstr k w) s = .next t) ∧
    (flagValue k.flag s.flags ≠ k.sense → exec (callIfInstr k w) s = .next s)

/-- The I/O placeholder (43_group01_jump_call_io.md; one byte long: decision D19, log 15): the 32 bytes `01xxxxx1` decode
to IOP and take no operand byte; IOP changes nothing and reports nothing. -/
def Obligations.PlaceholderDoesNothing : Prop :=
  (∀ (x : BitVec 5) (rest : List Byte), decode ((0b01#2 ++ x ++ 0b1#1) :: rest) = .ok (.iop x, rest)) ∧
  (∀ (x : BitVec 5) (s : State), exec (.iop x) s = .next s)

/-- Unknown opcodes (30_encoding.md, 41_group00_register_immediate_control.md, 60_exceptions.md): exactly six bytes
decode to an unknown opcode (four of them by decision D7, log 6); it reports the byte and the address it was fetched
from (decision D14, log 13) and changes nothing else. -/
def Obligations.UnknownOpcodeOnlyReports : Prop :=
  (∀ (op : Byte) (tail rest : List Byte) (x : Byte), decode (op :: tail) = .ok (.unk x, rest) ↔
    op ∈ [0x22#8, 0x2A#8, 0x32#8, 0x38#8, 0x39#8, 0x3A#8] ∧ x = op ∧ rest = tail) ∧
  (∀ (op : Byte) (s : State), exec (.unk op) s =
    .next { s with diag := s.diag ++ [.unknownOpcode op (s.pc - 1#14)] })

/-- Calling convention (42_group00_return_restart.md): with room on the stack, a return right after a call, a
restart or a taken conditional call comes back to the instruction after it with the pointer, the registers, the flags
and memory as they were. -/
def Obligations.ReturnComesBackAfterTheCall : Prop :=
  ∀ (s t : State) (i : Instr) (y : BitVec 3), s.sp.val < 8 →
    ((∃ x w, i = .call x w) ∨ (∃ a, i = rstInstr a) ∨ ∃ k w, i = callIfInstr k w ∧ flagValue k.flag s.flags = k.sense) →
    exec i s = .next t →
    ∃ u, exec (.ret y) t = .next u ∧ u.pc = s.pc ∧ u.sp = s.sp ∧ u.regs = s.regs ∧ u.flags = s.flags ∧ u.mem = s.mem ∧
      u.halted = s.halted ∧ u.diag = s.diag

/-! ## Frames -/

/-- The frame of the register-only arithmetic: INR and DCR change at most their cell, the ALU operations (all but
compare) and the rotates at most A, compare no cell; none changes pc, the stack, `halted`, the diagnostics or any byte
of memory; INR, DCR and CPI leave carry. -/
def Obligations.ArithmeticFrame : Prop :=
  ∀ s t : State,
    (∀ (i : Instr) (r : Reg),
      ((∃ n, (i = inrInstr n ∨ i = dcrInstr n) ∧ r = n.toReg) ∨
        (∃ p, ((∃ v, i = aluImmInstr p v) ∨ ∃ o, i = aluInstr p o) ∧ r = .a) ∨ (∃ k, i = rotateInstr k ∧ r = .a)) →
      exec i s = .next t →
      (∀ q : Reg, q ≠ r → t.reg q = s.reg q) ∧ t.pc = s.pc ∧ t.stk = s.stk ∧ t.sp = s.sp ∧ t.halted = s.halted ∧
        t.diag = s.diag ∧ ∀ a : Addr, t.memRead a = s.memRead a) ∧
    (∀ i : Instr, ((∃ v, i = .cpi v) ∨ ∃ o, i = aluInstr .cmp o) → exec i s = .next t → t.regs = s.regs) ∧
    (∀ i : Instr, ((∃ n, i = inrInstr n ∨ i = dcrInstr n) ∨ ∃ v, i = .cpi v) → exec i s = .next t →
      t.flags.fc = s.flags.fc)

/-- The frame of the moves and immediate loads into a cell: no other cell, no flag, no pc, no stack, no diagnostic, no
byte of memory changes. -/
def Obligations.LoadFrame : Prop :=
  ∀ (s t : State) (i : Instr) (r : Reg),
    ((∃ v, i = mviInstr (.reg r) v) ∨ (∃ q, i = movInstr r q) ∨ i = movFromMInstr r) → exec i s = .next t →
    (∀ q : Reg, q ≠ r → t.reg q = s.reg q) ∧ t.flags = s.flags ∧ t.pc = s.pc ∧ t.stk = s.stk ∧ t.sp = s.sp ∧
      t.halted = s.halted ∧ t.diag = s.diag ∧ ∀ a : Addr, t.memRead a = s.memRead a

/-- The frame of the two storing instructions: the byte at MAddr() of the state before takes the stored value, every
other byte reads as before, and no register, flag, pc, stack slot, latch or diagnostic changes. -/
def Obligations.StoreFrame : Prop :=
  ∀ (s t : State) (i : Instr) (v : Byte),
    (i = .mviM v ∨ ∃ r, i = movToMInstr r ∧ v = s.reg r) → exec i s = .next t →
    t.memRead s.maddr = v ∧ (∀ a : Addr, a ≠ s.maddr → t.memRead a = s.memRead a) ∧ t.regs = s.regs ∧
      t.flags = s.flags ∧ t.pc = s.pc ∧ t.stk = s.stk ∧ t.sp = s.sp ∧ t.halted = s.halted ∧ t.diag = s.diag

/-- The frame of the control transfers (jumps, calls, returns, restarts, conditional or not): no register, flag, byte
of memory or halted latch changes; a jump leaves the stack too; a return leaves every slot; a call or restart changes at
most the slot at sp. -/
def Obligations.TransferFrame : Prop :=
  ∀ (s t : State) (i : Instr), exec i s = .next t →
    (((∃ x w, i = .jmp x w) ∨ ∃ k w, i = jumpIfInstr k w) → sameButPc s t) ∧
    (((∃ x, i = .ret x) ∨ ∃ k, i = retIfInstr k) → t.regs = s.regs ∧ t.flags = s.flags ∧ t.halted = s.halted ∧
      t.stk = s.stk ∧ ∀ a : Addr, t.memRead a = s.memRead a) ∧
    (((∃ x w, i = .call x w) ∨ (∃ k w, i = callIfInstr k w) ∨ ∃ a, i = rstInstr a) → t.regs = s.regs ∧
      t.flags = s.flags ∧ t.halted = s.halted ∧ (∀ j : Fin 8, j.val ≠ s.sp.val → t.stk[j] = s.stk[j]) ∧
      ∀ a : Addr, t.memRead a = s.memRead a)

/-! ## Whole-machine rules -/

/-- 10_state.md, flags table (decision D23, log 21): an instruction that changes a flag is an increment, a decrement,
an ALU operation or a rotate; one that changes carry is an ALU operation other than CPI, or a rotate. -/
def Obligations.OnlyAluInstructionsChangeFlags : Prop :=
  ∀ (s t : State) (i : Instr), exec i s = .next t →
    (t.flags ≠ s.flags → (∃ r, i = inrInstr r ∨ i = dcrInstr r) ∨ (∃ p v, i = aluImmInstr p v) ∨
      (∃ p o, i = aluInstr p o) ∨ ∃ k, i = rotateInstr k) ∧
    (t.flags.fc ≠ s.flags.fc → (∃ p v, p ≠ .cmp ∧ i = aluImmInstr p v) ∨ (∃ p o, i = aluInstr p o) ∨
      ∃ k, i = rotateInstr k)

/-- 10_state.md, register access table: A is changed only by a storing ALU operation, a rotate, MVI A or a move into A;
another cell only by INR, DCR, MVI or a move that names it. -/
def Obligations.RegisterChangesNameTheRegister : Prop :=
  ∀ (s t : State) (i : Instr) (r : Reg), exec i s = .next t → t.reg r ≠ s.reg r →
    (∃ v, i = mviInstr (.reg r) v) ∨ (∃ q, i = movInstr r q) ∨ i = movFromMInstr r ∨
      (∃ n, n.toReg = r ∧ (i = inrInstr n ∨ i = dcrInstr n)) ∨
      (r = .a ∧ ((∃ k, i = rotateInstr k) ∨ ∃ p, p ≠ .cmp ∧ ((∃ v, i = aluImmInstr p v) ∨ ∃ o, i = aluInstr p o)))

/-- 10_state.md, stack: a step that changes a slot, the pointer, or reports a stack diagnostic ran a call, a restart, a
return, or a conditional one whose condition holds. -/
def Obligations.OnlyCallsAndReturnsUseTheStack : Prop :=
  ∀ (s t : State) (i : Instr), exec i s = .next t →
    (t.stk ≠ s.stk ∨ t.sp ≠ s.sp ∨ t.diag = s.diag ++ [.stackOverflow] ∨ t.diag = s.diag ++ [.stackUnderflow]) →
    (∃ x w, i = .call x w) ∨ (∃ a, i = rstInstr a) ∨ (∃ x, i = .ret x) ∨
      (∃ k w, i = callIfInstr k w ∧ flagValue k.flag s.flags = k.sense) ∨
      ∃ k, i = retIfInstr k ∧ flagValue k.flag s.flags = k.sense

/-- 20_memory.md, widths and side effects: a step changes at most one byte of memory, the one at MAddr() of the state
before it, and only when the opcode at pc is 0x3E or one of 0xF8 to 0xFE. -/
def Obligations.OnlyStoresChangeMemory : Prop :=
  ∀ (s t : State) (a : Addr), step s = .next t → t.memRead a ≠ s.memRead a →
    a = s.maddr ∧ (s.memRead s.pc = 0x3E#8 ∨ (0xF8 ≤ (s.memRead s.pc).toNat ∧ (s.memRead s.pc).toNat ≤ 0xFE))

/-- 70_reset_and_hazards.md R247: the halted latch is 1 after construction, 1 after a step whose opcode was one of the
three halt bytes and 0 after any other step, and no request of the driver writes it. -/
def Obligations.HaltedTellsTheLastStepHalted : Prop :=
  (∀ mem0 : Memory, (State.construct mem0).halted = true) ∧
  (∀ s t : State, step s = .next t →
    (t.halted = true ↔ s.memRead s.pc = 0x00#8 ∨ s.memRead s.pc = 0x01#8 ∨ s.memRead s.pc = 0xFF#8)) ∧
  (∀ (q : Driver.Request) (s t : State), Driver.apply q s = some t → t.halted = s.halted)

/-- 10_state.md, control state (decision D11, log 10) and 60_exceptions.md, diagnostics (D15, log 14): a step does not
depend on the latch, nor on the diagnostics of the step before. -/
def Obligations.HaltedAndOldDiagnosticsGateNothing : Prop :=
  ∀ (s : State) (b : Bool) (d : List Diagnostic), step { s with halted := b, diag := d } = step s

/-- 60_exceptions.md, diagnostics: the output of a step is exactly this. `op` is the byte at pc: an unknown byte is
reported with its own address (D7, D14, logs 6 and 13); CALL, RST and a conditional call whose condition holds report an
overflow when sp = 8; RET and a conditional return whose condition holds an underflow when sp = 0; nothing else reports.
Conditions are read by D4 and D5 (log 4). So a step emits at most one diagnostic. -/
def Obligations.StepEmitsExactlyThisDiagnostic : Prop :=
  ∀ s t : State, step s = .next t →
    (s.memRead s.pc ∈ [0x22#8, 0x2A#8, 0x32#8, 0x38#8, 0x39#8, 0x3A#8] →
      t.diag = [.unknownOpcode (s.memRead s.pc) s.pc]) ∧
    (s.memRead s.pc ∉ [0x22#8, 0x2A#8, 0x32#8, 0x38#8, 0x39#8, 0x3A#8] → t.diag =
      if s.sp.val = 8 ∧
        (groupField (s.memRead s.pc) = 0b01#2 ∧ (lowField (s.memRead s.pc) = 0b110#3 ∨
          (lowField (s.memRead s.pc) = 0b010#3 ∧ condHolds (condOfCode (midField (s.memRead s.pc))) s.flags = true)) ∨
          groupField (s.memRead s.pc) = 0b00#2 ∧ lowField (s.memRead s.pc) = 0b101#3) then [.stackOverflow]
      else if s.sp.val = 0 ∧ groupField (s.memRead s.pc) = 0b00#2 ∧ (lowField (s.memRead s.pc) = 0b111#3 ∨
          (lowField (s.memRead s.pc) = 0b011#3 ∧ condHolds (condOfCode (midField (s.memRead s.pc))) s.flags = true))
        then [.stackUnderflow]
      else []) ∧
    t.diag.length ≤ 1

/-- 10_state.md, program counter (index of how each instruction leaves it; D4, D5, D13, logs 4 and 12): pc after a step,
by the opcode `op` and the bytes after it. -/
def Obligations.ProgramCounterAfterStep : Prop :=
  ∀ (s t : State) (op lo hi : Byte), step s = .next t → s.memRead s.pc = op → s.memRead (s.pc + 1#14) = lo →
    s.memRead (s.pc + 2#14) = hi →
    (instrLength op = 1 → groupField op ≠ 0b00#2 → t.pc = s.pc + 1#14) ∧
    (instrLength op = 2 → t.pc = s.pc + 2#14) ∧
    (instrLength op = 3 → t.pc =
      if lowField op = 0b100#3 ∨ lowField op = 0b110#3 ∨ condHolds (condOfCode (midField op)) s.flags = true
      then BitVec.ofNat 14 ((hi.toNat * 256 + lo.toNat) % 16384) else s.pc + 3#14) ∧
    (instrLength op = 1 → groupField op = 0b00#2 → t.pc =
      if lowField op = 0b101#3 then BitVec.ofNat 14 (8 * (midField op).toNat)
      else if lowField op = 0b111#3 ∨
          (lowField op = 0b011#3 ∧ condHolds (condOfCode (midField op)) s.flags = true) then
        (if h : 0 < s.sp.val then s.stk[s.sp.val - 1]'(by omega) else s.pc + 1#14)
      else s.pc + 1#14)

/-! ## Encoding and the step -/

/-- 30_encoding.md, the opcode map (register codes D1, operation codes D6, rotate selectors D7, condition fields D4 and
D5, logs 1, 4, 5, 6): the patterns of INR, DCR, the rotates, Rxy, Jxy, Cxy, ALU immediate, RST, MVI, CALL, ALU register or
M, and MOV decode to their instruction, at every value of their fields. HLT, RET, JMP, IOP and the unknown bytes stand in
HaltSetsTheLatch, ReturnResult, JumpResult, PlaceholderDoesNothing and UnknownOpcodeOnlyReports. -/
def Obligations.OpcodeBytesDecode : Prop :=
  (∀ (r : CountReg) (rest : List Byte),
    decode (opcodeByte 0b00#2 r.toReg.code 0b000#3 :: rest) = .ok (inrInstr r, rest) ∧
    decode (opcodeByte 0b00#2 r.toReg.code 0b001#3 :: rest) = .ok (dcrInstr r, rest)) ∧
  (∀ (k : Rotate) (rest : List Byte), decode (opcodeByte 0b00#2 k.code 0b010#3 :: rest) = .ok (rotateInstr k, rest)) ∧
  (∀ (k : Cond) (lo hi : Byte) (rest : List Byte),
    decode (opcodeByte 0b00#2 (BitVec.ofBool k.sense ++ k.flag.code) 0b011#3 :: rest) = .ok (retIfInstr k, rest) ∧
    decode (opcodeByte 0b01#2 (BitVec.ofBool k.sense ++ k.flag.code) 0b000#3 :: lo :: hi :: rest) =
      .ok (jumpIfInstr k (hi ++ lo), rest) ∧
    decode (opcodeByte 0b01#2 (BitVec.ofBool k.sense ++ k.flag.code) 0b010#3 :: lo :: hi :: rest) =
      .ok (callIfInstr k (hi ++ lo), rest)) ∧
  (∀ (p : AluOp) (v : Byte) (rest : List Byte),
    decode (opcodeByte 0b00#2 p.code 0b100#3 :: v :: rest) = .ok (aluImmInstr p v, rest)) ∧
  (∀ (a : BitVec 3) (rest : List Byte), decode (opcodeByte 0b00#2 a 0b101#3 :: rest) = .ok (rstInstr a, rest)) ∧
  (∀ (o : Operand) (v : Byte) (rest : List Byte),
    decode (opcodeByte 0b00#2 o.code 0b110#3 :: v :: rest) = .ok (mviInstr o v, rest)) ∧
  (∀ (x : BitVec 3) (lo hi : Byte) (rest : List Byte),
    decode (opcodeByte 0b01#2 x 0b110#3 :: lo :: hi :: rest) = .ok (.call x (hi ++ lo), rest)) ∧
  (∀ (p : AluOp) (o : Operand) (rest : List Byte),
    decode (opcodeByte 0b10#2 p.code o.code :: rest) = .ok (aluInstr p o, rest)) ∧
  (∀ (r q : Reg) (rest : List Byte),
    decode (opcodeByte 0b11#2 r.code q.code :: rest) = .ok (movInstr r q, rest) ∧
    decode (opcodeByte 0b11#2 r.code 0b111#3 :: rest) = .ok (movFromMInstr r, rest) ∧
    decode (opcodeByte 0b11#2 0b111#3 q.code :: rest) = .ok (movToMInstr q, rest))

/-- 30_encoding.md, the opcode map, and the source's own example bytes `06 05 04 03`: a few words written out bit by bit
decode to the instructions they stand for. ADD B rests on D1 (log 1) and JFZ on D4 and D5 (log 4), both PRESUMED. That
decoding rejects a list that ends too early, by three names, is the model's choice (log 31). -/
def Obligations.WordsOfTheSpecDecode : Prop :=
  decode [0b00000110#8, 0x05#8, 0b00000100#8, 0x03#8] = .ok (.mviA 0x05#8, [0b00000100#8, 0x03#8]) ∧
  decode [0b00000100#8, 0x03#8] = .ok (.adi 0x03#8, []) ∧
  decode [0b10000001#8] = .ok (.addB, []) ∧
  decode [0b11111000#8] = .ok (.movMA, []) ∧
  decode [0b01001000#8, 0x10#8, 0x00#8] = .ok (.jfz 0x0010#16, []) ∧
  decode [0b01000110#8, 0x00#8, 0x01#8] = .ok (.call 0b000#3 0x0100#16, []) ∧
  decode [0b00010101#8] = .ok (.rst2, []) ∧
  decode [0b00111000#8] = .ok (.unk 0x38#8, []) ∧
  decode [] = .error .noOpcode ∧
  decode [0b00111110#8] = .error (.missingImmediate 0x3E#8) ∧
  decode [0b01000100#8, 0x00#8] = .error (.missingAddress 0x44#8)

/-- Decoding the bytes of a well-formed instruction, whatever follows them, gives it back: no bit of an encoding of
30_encoding.md is dropped. -/
def Obligations.DecodeUndoesEncode : Prop :=
  ∀ (i : Instr) (rest : List Byte), i.wf = true → decode (encode i ++ rest) = .ok (i, rest)

/-- What decoding gives is well-formed, and its encoding is exactly the bytes that were taken: the same bytes never
stand for two instructions and no two encodings are merged (30_encoding.md, ignored bits; log 23). -/
def Obligations.EncodeUndoesDecode : Prop :=
  ∀ (bs rest : List Byte) (i : Instr), decode bs = .ok (i, rest) → i.wf = true ∧ encode i ++ rest = bs

/-- 30_encoding.md, length: the number of bytes decoding takes depends on the opcode byte alone, as the fields g and l
of that byte say. -/
def Obligations.LengthIsAFunctionOfTheOpcode : Prop :=
  ∀ (op : Byte) (tail rest : List Byte) (i : Instr), decode (op :: tail) = .ok (i, rest) →
    tail.length + 1 = rest.length +
      (if op.toNat / 64 = 0 ∧ (op.toNat % 8 = 4 ∨ op.toNat % 8 = 6) then 2
       else if op.toNat / 64 = 1 ∧ op.toNat % 2 = 0 then 3 else 1)

/-- 70_reset_and_hazards.md, the step (decision D11, log 10; exec's convention on pc, log 20): where the bytes at pc,
wrapping at the top of memory, decode to an instruction, the step is that instruction's action on the state with the
latch cleared, the output empty and pc past the bytes decoding took. -/
def Obligations.StepRunsTheDecodedInstruction : Prop :=
  ∀ (s : State) (i : Instr) (rest : List Byte),
    decode [s.memRead s.pc, s.memRead (s.pc + 1#14), s.memRead (s.pc + 2#14)] = .ok (i, rest) →
    step s = exec i { s with halted := false, diag := [], pc := s.pc + BitVec.ofNat 14 (3 - rest.length) }

/-- 70_reset_and_hazards.md, totality: every step of every state answers a next state, and so does every instruction. -/
def Obligations.EveryStepAnswersNext : Prop :=
  (∀ s : State, ∃ t, step s = .next t) ∧ ∀ (i : Instr) (s : State), ∃ t, exec i s = .next t

/-- 70_reset_and_hazards.md, the step, and the placing of an instruction: the word stored at pc is what the next step
decodes, for every table word, every state and every program counter, at the top of memory too (log 19). -/
def Obligations.PlacedWordIsFetchedNext : Prop :=
  ∀ (s : State) (nbits w : Nat) (i : Instr), decodeTableWord nbits w = some i →
    (fetchInstr (s.withFetchWord nbits w).beginStep).1 = i

/-! ## The driver -/

/-- 70_reset_and_hazards.md, direct access between steps (which values are legal: decision D18, log 16): a request with
a legal value overwrites exactly the item it names; an illegal one is rejected. -/
def Obligations.DriverWritesExactlyWhatItNames : Prop :=
  ∀ s : State,
    (∀ v : Nat, Driver.apply (.setPc v) s = if v < 16384 then some { s with pc := BitVec.ofNat 14 v } else none) ∧
    (∀ (r : Reg) (v : Nat), Driver.apply (.setReg r v) s =
      if v < 256 then some (s.setReg r (BitVec.ofNat 8 v)) else none) ∧
    (∀ (n : FlagName) (v : Nat) (t : State), Driver.apply (.setFlag n v) s = some t ↔
      v < 2 ∧ flagValue n t.flags = decide (v = 1) ∧
        (∀ n', n' ≠ n → flagValue n' t.flags = flagValue n' s.flags) ∧ { t with flags := s.flags } = s) ∧
    (∀ (v : Nat) (t : State), Driver.apply (.setSp v) s = some t ↔ v ≤ 8 ∧ t.sp.val = v ∧ { t with sp := s.sp } = s) ∧
    (∀ a v : Nat, Driver.apply (.writeMem a v) s =
      if a < 16384 ∧ v < 256 then some (s.memWrite (BitVec.ofNat 14 a) (BitVec.ofNat 8 v)) else none)

/-- 70_reset_and_hazards.md R246: a load of an image of exactly 16384 bytes makes byte i of it mem[i] and changes no core
state, and a dump then gives the image back. That an image of another length is rejected is the model's choice (log 32). -/
def Obligations.LoadedImageIsDumpedBack : Prop :=
  ∀ (image : List Byte) (s : State),
    (∀ hl : image.length = 16384, ∃ t, Driver.loadImage image s = some t ∧
      (∀ (i : Nat) (hi : i < 16384), t.memRead (BitVec.ofNat 14 i) = image[i]'(by omega)) ∧
      Driver.dumpImage t = image ∧ { t with mem := s.mem } = s) ∧
    (image.length ≠ 16384 → Driver.loadImage image s = none)
end

