-- ==== Sys2Proof/Laws/State.lean ====
section
/-! SUPPORT. One lemma per field and update of State, so that no later proof unfolds an update. -/

namespace Sys2Proof.Machine.State

variable (s : State)

/-! ## setReg -/

@[simp] theorem setReg_pc (r : Reg) (v : Byte) : (s.setReg r v).pc = s.pc := by cases r <;> rfl
@[simp] theorem setReg_flags (r : Reg) (v : Byte) : (s.setReg r v).flags = s.flags := by cases r <;> rfl
@[simp] theorem setReg_stk (r : Reg) (v : Byte) : (s.setReg r v).stk = s.stk := by cases r <;> rfl
@[simp] theorem setReg_sp (r : Reg) (v : Byte) : (s.setReg r v).sp = s.sp := by cases r <;> rfl
@[simp] theorem setReg_halted (r : Reg) (v : Byte) : (s.setReg r v).halted = s.halted := by cases r <;> rfl
@[simp] theorem setReg_mem (r : Reg) (v : Byte) : (s.setReg r v).mem = s.mem := by cases r <;> rfl
@[simp] theorem setReg_diag (r : Reg) (v : Byte) : (s.setReg r v).diag = s.diag := by cases r <;> rfl

/-! ## setPc -/

@[simp] theorem setPc_regs (t : Addr) : (s.setPc t).regs = s.regs := rfl
@[simp] theorem setPc_pc (t : Addr) : (s.setPc t).pc = t := rfl
@[simp] theorem setPc_flags (t : Addr) : (s.setPc t).flags = s.flags := rfl
@[simp] theorem setPc_stk (t : Addr) : (s.setPc t).stk = s.stk := rfl
@[simp] theorem setPc_sp (t : Addr) : (s.setPc t).sp = s.sp := rfl
@[simp] theorem setPc_halted (t : Addr) : (s.setPc t).halted = s.halted := rfl
@[simp] theorem setPc_mem (t : Addr) : (s.setPc t).mem = s.mem := rfl
@[simp] theorem setPc_diag (t : Addr) : (s.setPc t).diag = s.diag := rfl

/-! ## report -/

@[simp] theorem report_regs (d : Diagnostic) : (s.report d).regs = s.regs := rfl
@[simp] theorem report_pc (d : Diagnostic) : (s.report d).pc = s.pc := rfl
@[simp] theorem report_flags (d : Diagnostic) : (s.report d).flags = s.flags := rfl
@[simp] theorem report_stk (d : Diagnostic) : (s.report d).stk = s.stk := rfl
@[simp] theorem report_sp (d : Diagnostic) : (s.report d).sp = s.sp := rfl
@[simp] theorem report_halted (d : Diagnostic) : (s.report d).halted = s.halted := rfl
@[simp] theorem report_mem (d : Diagnostic) : (s.report d).mem = s.mem := rfl
@[simp] theorem report_diag (d : Diagnostic) : (s.report d).diag = s.diag ++ [d] := rfl

/-! ## memWrite -/

@[simp] theorem memWrite_regs (a : Addr) (v : Byte) : (s.memWrite a v).regs = s.regs := rfl
@[simp] theorem memWrite_pc (a : Addr) (v : Byte) : (s.memWrite a v).pc = s.pc := rfl
@[simp] theorem memWrite_flags (a : Addr) (v : Byte) : (s.memWrite a v).flags = s.flags := rfl
@[simp] theorem memWrite_stk (a : Addr) (v : Byte) : (s.memWrite a v).stk = s.stk := rfl
@[simp] theorem memWrite_sp (a : Addr) (v : Byte) : (s.memWrite a v).sp = s.sp := rfl
@[simp] theorem memWrite_halted (a : Addr) (v : Byte) : (s.memWrite a v).halted = s.halted := rfl
@[simp] theorem memWrite_mem (a : Addr) (v : Byte) : (s.memWrite a v).mem = s.mem.write a v := rfl
@[simp] theorem memWrite_diag (a : Addr) (v : Byte) : (s.memWrite a v).diag = s.diag := rfl

/-! ## beginStep -/

@[simp] theorem beginStep_regs : s.beginStep.regs = s.regs := rfl
@[simp] theorem beginStep_pc : s.beginStep.pc = s.pc := rfl
@[simp] theorem beginStep_flags : s.beginStep.flags = s.flags := rfl
@[simp] theorem beginStep_stk : s.beginStep.stk = s.stk := rfl
@[simp] theorem beginStep_sp : s.beginStep.sp = s.sp := rfl
@[simp] theorem beginStep_halted : s.beginStep.halted = false := rfl
@[simp] theorem beginStep_mem : s.beginStep.mem = s.mem := rfl
@[simp] theorem beginStep_diag : s.beginStep.diag = [] := rfl

/-! ## Reading a register after an update -/

/-- A cell holds what was last written to it, and no other cell changes. -/
theorem reg_setReg (r q : Reg) (v : Byte) : (s.setReg r v).reg q = if q = r then v else s.reg q := by
  cases r <;> cases q <;> rfl

@[simp] theorem reg_setReg_self (r : Reg) (v : Byte) : (s.setReg r v).reg r = v := by cases r <;> rfl

theorem reg_setReg_ne {r q : Reg} (h : q ≠ r) (v : Byte) : (s.setReg r v).reg q = s.reg q := by
  rw [reg_setReg, if_neg h]

/-- The cells of a state are those of its register file. -/
theorem reg_congr {t : State} (h : t.regs = s.regs) (q : Reg) : t.reg q = s.reg q := by
  cases q <;> simp [State.reg, h]

/-- Two states whose cells agree have the same register file. -/
theorem regs_ext {t : State} (h : ∀ q, t.reg q = s.reg q) : t.regs = s.regs := by
  have ha := h .a; have hb := h .b; have hc := h .c; have hd := h .d
  have he := h .e; have hh := h .h; have hl := h .l
  obtain ⟨⟨_, _, _, _, _, _, _⟩, _, _, _, _, _, _, _⟩ := s
  obtain ⟨⟨_, _, _, _, _, _, _⟩, _, _, _, _, _, _, _⟩ := t
  simp_all [State.reg]

@[simp] theorem memRead_def (a : Addr) : s.memRead a = s.mem.read a := rfl

end Sys2Proof.Machine.State
end

