-- ==== Sys2Proof/Laws/Alu.lean ====
section
/-! SUPPORT. The ALU and flag functions in the words of bit vectors, and what `aluExec` can do. -/

namespace Sys2Proof.Machine

open Sys2Proof.Safety

/-- The popcount form of the parity flag is the exclusive-or form, over all bytes. -/
theorem parity_eq_xor (v : Byte) :
    decide (popcount v % 2 = 0) = !(v.getLsbD 7 ^^ v.getLsbD 6 ^^ v.getLsbD 5 ^^ v.getLsbD 4 ^^ v.getLsbD 3
      ^^ v.getLsbD 2 ^^ v.getLsbD 1 ^^ v.getLsbD 0) := by
  unfold popcount
  cases v.getLsbD 0 <;> cases v.getLsbD 1 <;> cases v.getLsbD 2 <;> cases v.getLsbD 3 <;> cases v.getLsbD 4 <;>
    cases v.getLsbD 5 <;> cases v.getLsbD 6 <;> cases v.getLsbD 7 <;> rfl

/-- The flags a result leaves, in the words of the claims. -/
theorem setSZP_eq (v : Byte) (f : Flags) : setSZP v f = flagsOf v f.fc := by
  have hs : v.getLsbD 7 = decide (128 ≤ v.toNat) :=
    (BitVec.msb_eq_getLsbD_last v).symm.trans (BitVec.msb_eq_decide v)
  have hz : decide (v = 0#8) = decide (v.toNat = 0) := by
    simp [← BitVec.toNat_inj]
  simp only [setSZP, flagsOf, parity_eq_xor, hz]
  rw [← hs]

theorem setSZP_with_fc (v : Byte) (f : Flags) (c : Bool) : { setSZP v f with fc := c } = flagsOf v c := by
  rw [setSZP_eq]; rfl

@[simp] theorem setSZP_fc (v : Byte) (f : Flags) : (setSZP v f).fc = f.fc := rfl

theorem aluAdd_fst (a v : Byte) : (aluAdd a v).1 = a + v := by
  simp [aluAdd, BitVec.ofNat_add]

theorem aluAdc_fst (a v : Byte) (c : Bool) : (aluAdc a v c).1 = a + v + (BitVec.ofBool c).setWidth 8 := by
  cases c <;> simp [aluAdc, BitVec.ofNat_add]

theorem aluSub_fst (a v : Byte) : (aluSub a v).1 = a - v := by
  apply BitVec.eq_of_toNat_eq
  simp only [aluSub, BitVec.toNat_ofInt, BitVec.toNat_sub]
  omega

theorem aluSbb_fst (a v : Byte) (c : Bool) : (aluSbb a v c).1 = a - (v + (BitVec.ofBool c).setWidth 8) := by
  apply BitVec.eq_of_toNat_eq
  simp only [aluSbb, BitVec.toNat_ofInt, BitVec.toNat_sub, BitVec.toNat_add, BitVec.toNat_setWidth, BitVec.toNat_ofBool]
  cases c <;> simp only [Bool.toNat_false, Bool.toNat_true] <;> omega

theorem inc8_eq (v : Byte) : inc8 v = v + 1#8 := by
  simp [inc8, BitVec.ofNat_add]

theorem dec8_eq (v : Byte) : dec8 v = v - 1#8 := by
  apply BitVec.eq_of_toNat_eq
  simp only [dec8, BitVec.toNat_ofInt, BitVec.toNat_sub, BitVec.toNat_ofNat]
  omega

/-- Everything an ALU instruction does: A (but for compare), the four flags, nothing else. -/
theorem aluExec_spec (p : AluOp) (v : Byte) (form : AluForm) (s : State) :
    aluExec p v form s =
      { s with
        regs := { s.regs with a := aluAcc p (aluResult p s.regs.a v s.flags.fc).1 s.regs.a }
        flags := flagsOf (aluResult p s.regs.a v s.flags.fc).1
          (aluCarry p form (aluResult p s.regs.a v s.flags.fc).2 s.flags.fc) } := by
  simp only [aluExec, setSZP_with_fc]
  rfl

end Sys2Proof.Machine
end

