-- ==== Sys2Proof/Laws/Memory.lean ====
section
/-! SUPPORT. Memory: a read after a write, and that every operation keeps the canonical form. -/

namespace Sys2Proof.Machine.Memory

/-! ## Reading back -/

theorem lookup_erase (m : Memory) (i j : Nat) :
    (m.erase i).lookup j = if j = i then Config.unlistedByte else m.lookup j := by
  induction m with
  | nil => simp [erase, lookup]
  | cons c rest ih =>
    obtain ⟨k, v⟩ := c
    by_cases hk : k = i
    · subst hk
      by_cases hj : j = k <;> simp_all [erase, lookup, eq_comm]
    · by_cases hj : k = j
      · subst hj; simp [erase, lookup, hk]
      · simp [erase, lookup, hk, hj, ih]

theorem lookup_insert_self (m : Memory) (i : Nat) (v : Byte) (h : ∀ c ∈ m, c.1 ≠ i) : (m.insert i v).lookup i = v := by
  induction m with
  | nil => simp [insert, lookup]
  | cons c rest ih =>
    obtain ⟨k, u⟩ := c
    have hk : k ≠ i := h (k, u) (by simp)
    have ih := ih fun c hc => h c (by simp [hc])
    by_cases hlt : i < k <;> simp [insert, lookup, hlt, hk, ih]

theorem lookup_insert_ne (m : Memory) {i j : Nat} (v : Byte) (h : j ≠ i) : (m.insert i v).lookup j = m.lookup j := by
  induction m with
  | nil => simp [insert, lookup, Ne.symm h]
  | cons c rest ih =>
    obtain ⟨k, u⟩ := c
    by_cases hlt : i < k
    · simp [insert, lookup, hlt, Ne.symm h]
    · simp [insert, lookup, hlt, ih]

theorem not_mem_erase (m : Memory) (i : Nat) : ∀ c ∈ m.erase i, c.1 ≠ i := by
  induction m with
  | nil => simp [erase]
  | cons c rest ih =>
    obtain ⟨k, u⟩ := c
    by_cases hk : k = i
    · simpa [erase, hk] using ih
    · simpa [erase, hk] using ih

/-- A write at an index changes the byte there and no other. -/
theorem lookup_put (m : Memory) (i j : Nat) (v : Byte) : (m.put i v).lookup j = if j = i then v else m.lookup j := by
  unfold put
  split <;> rename_i hv
  · rw [lookup_erase, hv]
  · by_cases hj : j = i
    · subst hj; simp [lookup_insert_self _ _ _ (not_mem_erase m j)]
    · simp [lookup_insert_ne _ v hj, lookup_erase, hj]

/-- A read after a write: the byte written at its address, the old byte elsewhere. -/
theorem read_write (m : Memory) (a b : Addr) (v : Byte) : (m.write a v).read b = if b = a then v else m.read b := by
  simp [read, write, lookup_put, BitVec.toNat_inj]

@[simp] theorem read_write_self (m : Memory) (a : Addr) (v : Byte) : (m.write a v).read a = v := by simp [read_write]

theorem read_write_ne (m : Memory) {a b : Addr} (h : b ≠ a) (v : Byte) : (m.write a v).read b = m.read b := by
  simp [read_write, h]

/-- An index of 14 bits is in bounds: the bounds-checked read is the plain one. -/
theorem readIndex_toNat (m : Memory) (a : Addr) : m.readIndex a.toNat = .ok (m.read a) := by
  simp [readIndex, read, Config.memSize, a.isLt]

theorem writeIndex_toNat (m : Memory) (a : Addr) (v : Byte) : m.writeIndex a.toNat v = .ok (m.write a v) := by
  simp [writeIndex, write, Config.memSize, a.isLt]

/-! ## The canonical form is kept -/

theorem wfFrom_cons {lo k : Nat} {v : Byte} {rest : Memory} :
    wfFrom lo ((k, v) :: rest) = true ↔
      lo ≤ k ∧ k < Config.memSize ∧ v ≠ Config.unlistedByte ∧ wfFrom (k + 1) rest = true := by
  simp [wfFrom, and_assoc]

theorem wfFrom_mono {lo lo' : Nat} {m : Memory} (h : lo' ≤ lo) (hm : wfFrom lo m = true) : wfFrom lo' m = true := by
  cases m with
  | nil => rfl
  | cons c rest =>
    obtain ⟨k, v⟩ := c
    rw [wfFrom_cons] at hm ⊢
    exact ⟨h.trans hm.1, hm.2⟩

theorem wfFrom_erase {lo : Nat} {m : Memory} (i : Nat) (hm : wfFrom lo m = true) : wfFrom lo (m.erase i) = true := by
  induction m generalizing lo with
  | nil => rfl
  | cons c rest ih =>
    obtain ⟨k, v⟩ := c
    rw [wfFrom_cons] at hm
    by_cases hk : k = i
    · simpa [erase, hk] using ih (wfFrom_mono (by omega) hm.2.2.2)
    · simpa [erase, hk, wfFrom_cons] using ⟨hm.1, hm.2.1, hm.2.2.1, ih hm.2.2.2⟩

theorem wfFrom_insert {lo i : Nat} {m : Memory} {v : Byte} (hm : wfFrom lo m = true) (hlo : lo ≤ i)
    (hi : i < Config.memSize) (hv : v ≠ Config.unlistedByte) (hne : ∀ c ∈ m, c.1 ≠ i) :
    wfFrom lo (m.insert i v) = true := by
  induction m generalizing lo with
  | nil => simp [insert, hlo, hi, hv, wfFrom]
  | cons c rest ih =>
    obtain ⟨k, u⟩ := c
    have hk : k ≠ i := hne (k, u) (by simp)
    rw [wfFrom_cons] at hm
    by_cases hlt : i < k
    · simp only [insert, hlt, if_true, wfFrom_cons]
      exact ⟨hlo, hi, hv, by omega, hm.2.1, hm.2.2.1, hm.2.2.2⟩
    · simp only [insert, hlt, if_false, wfFrom_cons]
      exact ⟨hm.1, hm.2.1, hm.2.2.1, ih hm.2.2.2 (by omega) fun c hc => hne c (by simp [hc])⟩

/-- A write within bounds keeps the canonical form. -/
theorem wf_put {m : Memory} (hm : m.wf = true) {i : Nat} (hi : i < Config.memSize) (v : Byte) :
    (m.put i v).wf = true := by
  unfold put
  split <;> rename_i hv
  · exact wfFrom_erase i hm
  · exact wfFrom_insert (wfFrom_erase i hm) (Nat.zero_le i) hi hv (not_mem_erase m i)

/-- Every write of the core keeps the canonical form. -/
theorem wf_write {m : Memory} (hm : m.wf = true) (a : Addr) (v : Byte) : (m.write a v).wf = true :=
  wf_put hm a.isLt v

/-- A bounds-checked write that answers a memory keeps the canonical form. -/
theorem wf_writeIndex {m n : Memory} (hm : m.wf = true) {i : Nat} {v : Byte} (h : m.writeIndex i v = .ok n) :
    n.wf = true := by
  unfold writeIndex at h
  split at h
  · next hi => cases h; exact wf_put hm hi v
  · cases h

/-- Writing a list of bytes keeps the canonical form. -/
theorem wf_memWriteList {s : State} (hs : s.mem.wf = true) (a : Addr) (bs : List Byte) :
    (s.memWriteList a bs).mem.wf = true := by
  induction bs generalizing s a with
  | nil => exact hs
  | cons v rest ih => exact ih (s := s.memWrite a v) (wf_write hs a v) (a + 1#14)

/-- The memory after reset is canonical. -/
theorem wf_nil : Memory.wf [] = true := rfl

end Sys2Proof.Machine.Memory
end

