-- ==== Sys2Proof/Laws/Stack.lean ====
section
/-! SUPPORT. What a push and a pop can do, said once. -/

namespace Sys2Proof.Machine.State

/-- A push below capacity stores at sp and raises it. -/
theorem push_of_lt {s : State} (a : Addr) (h : s.sp.val < 8) :
    s.push a = { s with stk := s.stk.set s.sp.val a, sp := ⟨s.sp.val + 1, by omega⟩ } := by
  simp [push, h]

/-- A push at capacity only reports. -/
theorem push_of_full {s : State} (a : Addr) (h : s.sp.val = 8) : s.push a = s.report .stackOverflow := by
  simp [push, h]

/-- A pop of a held address lowers sp and returns the newest slot, which keeps its value. -/
theorem pop_of_pos {s : State} (h : 0 < s.sp.val) :
    s.pop = (s.stk[s.sp.val - 1]'(by omega), { s with sp := ⟨s.sp.val - 1, by omega⟩ }) := by
  simp [pop, h]

/-- A pop of nothing returns pc and only reports. -/
theorem pop_of_empty {s : State} (h : s.sp.val = 0) : s.pop = (s.pc, s.report .stackUnderflow) := by
  simp [pop, h]

/-- Everything a push can do. -/
theorem push_cases (s : State) (a : Addr) :
    (∃ h : s.sp.val < 8, s.push a = { s with stk := s.stk.set s.sp.val a, sp := ⟨s.sp.val + 1, by omega⟩ }) ∨
      (s.sp.val = 8 ∧ s.push a = s.report .stackOverflow) := by
  by_cases h : s.sp.val < 8
  · exact .inl ⟨h, push_of_lt a h⟩
  · have : s.sp.val = 8 := by omega
    exact .inr ⟨this, push_of_full a this⟩

/-- Everything a pop can do. -/
theorem pop_cases (s : State) :
    (∃ h : 0 < s.sp.val, s.pop =
        (s.stk[s.sp.val - 1]'(by omega), { s with sp := ⟨s.sp.val - 1, by omega⟩ })) ∨
      (s.sp.val = 0 ∧ s.pop = (s.pc, s.report .stackUnderflow)) := by
  by_cases h : 0 < s.sp.val
  · exact .inl ⟨h, pop_of_pos h⟩
  · have : s.sp.val = 0 := by omega
    exact .inr ⟨this, pop_of_empty this⟩

/-! ## What neither changes -/

@[simp] theorem push_regs (s : State) (a : Addr) : (s.push a).regs = s.regs := by unfold push; split <;> rfl
@[simp] theorem push_pc (s : State) (a : Addr) : (s.push a).pc = s.pc := by unfold push; split <;> rfl
@[simp] theorem push_flags (s : State) (a : Addr) : (s.push a).flags = s.flags := by unfold push; split <;> rfl
@[simp] theorem push_halted (s : State) (a : Addr) : (s.push a).halted = s.halted := by unfold push; split <;> rfl
@[simp] theorem push_mem (s : State) (a : Addr) : (s.push a).mem = s.mem := by unfold push; split <;> rfl
@[simp] theorem pop_regs (s : State) : s.pop.2.regs = s.regs := by unfold pop; split <;> rfl
@[simp] theorem pop_pc (s : State) : s.pop.2.pc = s.pc := by unfold pop; split <;> rfl
@[simp] theorem pop_flags (s : State) : s.pop.2.flags = s.flags := by unfold pop; split <;> rfl
@[simp] theorem pop_stk (s : State) : s.pop.2.stk = s.stk := by unfold pop; split <;> rfl
@[simp] theorem pop_halted (s : State) : s.pop.2.halted = s.halted := by unfold pop; split <;> rfl
@[simp] theorem pop_mem (s : State) : s.pop.2.mem = s.mem := by unfold pop; split <;> rfl

end Sys2Proof.Machine.State
end

