-- ==== Sys2Proof/Laws/Actions.lean ====
section
/-! SUPPORT. What each shared action of the instruction families can do, said once. -/

namespace Sys2Proof.Machine

open Sys2Proof.Safety

/-- The M pointer as arithmetic. -/
theorem maddr_toNat (s : State) : s.maddr.toNat = s.regs.h.toNat % 64 * 256 + s.regs.l.toNat := by
  rw [State.maddr, BitVec.toNat_append, ← Nat.shiftLeft_add_eq_or_of_lt s.regs.l.isLt, Nat.shiftLeft_eq]
  simp [BitVec.extractLsb'_toNat]

/-- An operand write reaches one cell or one byte of memory, never both. -/
theorem writeDst_cases (s : State) (o : Operand) (v : Byte) :
    (∃ r, o = .reg r ∧ s.writeDst o v = s.setReg r v) ∨ (o = .m ∧ s.writeDst o v = s.memWrite s.maddr v) := by
  cases o with
  | reg r => exact .inl ⟨r, rfl, rfl⟩
  | m => exact .inr ⟨rfl, rfl⟩

theorem incReg_spec (r : Reg) (s : State) :
    incReg r s = { s.setReg r (s.reg r + 1#8) with flags := flagsOf (s.reg r + 1#8) s.flags.fc } := by
  simp only [incReg, inc8_eq, setSZP_eq]

theorem decReg_spec (r : Reg) (s : State) :
    decReg r s = { s.setReg r (s.reg r - 1#8) with flags := flagsOf (s.reg r - 1#8) s.flags.fc } := by
  simp only [decReg, dec8_eq, setSZP_eq]

theorem rotateAcc_spec (k : Rotate) (s : State) :
    rotateAcc k s =
      { s with
        regs := { s.regs with a := (rotate8 k s.regs.a s.flags.fc).1 }
        flags := flagsOf (rotate8 k s.regs.a s.flags.fc).1 (rotate8 k s.regs.a s.flags.fc).2 } := by
  simp only [rotateAcc, setSZP_with_fc]
  rfl

/-- A return pops into pc, or reports and leaves pc. -/
theorem ret_cases (s : State) :
    (∃ h : 0 < s.sp.val, ret s =
        { s with sp := ⟨s.sp.val - 1, by omega⟩, pc := s.stk[s.sp.val - 1]'(by omega) }) ∨
      (s.sp.val = 0 ∧ ret s = s.report .stackUnderflow) := by
  rcases s.pop_cases with ⟨h, hp⟩ | ⟨h, hp⟩
  · exact .inl ⟨h, by simp only [ret, hp]; rfl⟩
  · exact .inr ⟨h, by simp only [ret, hp]; rfl⟩

/-- A call saves pc and transfers, or reports and transfers. -/
theorem call_cases (w : Word) (s : State) :
    (∃ h : s.sp.val < 8, call w s =
        { s with stk := s.stk.set s.sp.val s.pc, sp := ⟨s.sp.val + 1, by omega⟩, pc := mask14 w }) ∨
      (s.sp.val = 8 ∧ call w s = (s.report .stackOverflow).setPc (mask14 w)) := by
  rcases s.push_cases s.pc with ⟨h, hp⟩ | ⟨h, hp⟩
  · exact .inl ⟨h, by simp only [call, hp]; rfl⟩
  · exact .inr ⟨h, by simp only [call, hp]⟩

/-- A restart saves pc and goes to its vector, or reports and goes there. -/
theorem restart_cases (a : BitVec 3) (s : State) :
    (∃ h : s.sp.val < 8, restart a s =
        { s with stk := s.stk.set s.sp.val s.pc, sp := ⟨s.sp.val + 1, by omega⟩, pc := restartVector a }) ∨
      (s.sp.val = 8 ∧ restart a s = (s.report .stackOverflow).setPc (restartVector a)) := by
  rcases s.push_cases s.pc with ⟨h, hp⟩ | ⟨h, hp⟩
  · exact .inl ⟨h, by simp only [restart, hp]; rfl⟩
  · exact .inr ⟨h, by simp only [restart, hp]⟩

theorem restartVector_toNat (a : BitVec 3) : (restartVector a).toNat = 8 * a.toNat := by
  revert a; decide

theorem mask14_toNat (w : Word) : (mask14 w).toNat = w.toNat % 16384 := by
  simp [mask14, BitVec.toNat_setWidth]

/-! ## Rotates as rotations and shifts -/

theorem rotate8_rlc (a : Byte) (c : Bool) : rotate8 .rlc a c = (a.rotateLeft 1, a.getLsbD 7) := by
  simp only [rotate8, Prod.mk.injEq, and_true]; revert a; decide

theorem rotate8_rrc (a : Byte) (c : Bool) : rotate8 .rrc a c = (a.rotateRight 1, a.getLsbD 0) := by
  simp only [rotate8, Prod.mk.injEq, and_true]; revert a; decide

theorem rotate8_ral (a : Byte) (c : Bool) :
    rotate8 .ral a c = (a <<< 1 ||| (BitVec.ofBool c).setWidth 8, a.getLsbD 7) := by
  simp only [rotate8, Prod.mk.injEq, and_true]; revert a c; decide

theorem rotate8_rar (a : Byte) (c : Bool) :
    rotate8 .rar a c = (a >>> 1 ||| (BitVec.ofBool c).setWidth 8 <<< 7, a.getLsbD 0) := by
  simp only [rotate8, Prod.mk.injEq, and_true]; revert a c; decide

end Sys2Proof.Machine
end

