-- ==== Sys2Proof/Laws/Encode.lean ====
section
/-! SUPPORT. Small lemmas of the fields and operand bytes of an encoding. -/

namespace Sys2Proof

/-- The address word is that of its two bytes, low byte first. -/
theorem addrWord_extract (w : Word) : addrWord (w.extractLsb' 0 8) (w.extractLsb' 8 8) = w := by
  apply BitVec.eq_of_toNat_eq
  rw [addrWord, BitVec.toNat_append, ← Nat.shiftLeft_add_eq_or_of_lt (BitVec.isLt _), Nat.shiftLeft_eq]
  simp only [BitVec.extractLsb'_toNat, Nat.shiftRight_eq_div_pow]
  omega

theorem addrWord_toNat (lo hi : Byte) : (addrWord lo hi).toNat = hi.toNat * 256 + lo.toNat := by
  rw [addrWord, BitVec.toNat_append, ← Nat.shiftLeft_add_eq_or_of_lt lo.isLt, Nat.shiftLeft_eq]

/-- The two bytes of an address word are those it was assembled from. -/
theorem addrBytes_addrWord (lo hi : Byte) : addrBytes (addrWord lo hi) = [lo, hi] := by
  have h0 : (addrWord lo hi).extractLsb' 0 8 = lo := BitVec.eq_of_toNat_eq (by
    simp only [BitVec.extractLsb'_toNat, Nat.shiftRight_eq_div_pow, addrWord_toNat]; omega)
  have h1 : (addrWord lo hi).extractLsb' 8 8 = hi := BitVec.eq_of_toNat_eq (by
    simp only [BitVec.extractLsb'_toNat, Nat.shiftRight_eq_div_pow, addrWord_toNat]; omega)
  simp only [addrBytes, h0, h1]

/-- The opcode byte is that of its three fields. -/
theorem opcodeByte_fields (op : Byte) : opcodeByte (groupField op) (midField op) (lowField op) = op := by
  revert op; decide

end Sys2Proof
end

