-- ==== Sys2Proof/Laws/Shape.lean ====
section
/-! SUPPORT. The instructions by shape: a proof about every instruction goes through the nineteen shapes of `Shape`
and not through the 197 constructors of `Instr`. -/

namespace Sys2Proof.Laws

open Sys2Proof.Machine

/-- The shapes of instruction, each with the operands that tell its constructors apart. -/
inductive Shape where
  | hlt (op : Byte)
  | inr (r : CountReg)
  | dcr (r : CountReg)
  | unk (op : Byte)
  | aluImm (p : AluOp) (v : Byte)
  | mvi (o : Operand) (v : Byte)
  | rotate (k : Rotate)
  | ret (x : BitVec 3)
  | retIf (k : Cond)
  | rst (a : BitVec 3)
  | jmp (x : BitVec 3) (w : Word)
  | jumpIf (k : Cond) (w : Word)
  | call (x : BitVec 3) (w : Word)
  | callIf (k : Cond) (w : Word)
  | iop (x : BitVec 5)
  | alu (p : AluOp) (o : Operand)
  | mov (r q : Reg)
  | movFromM (r : Reg)
  | movToM (r : Reg)
deriving DecidableEq, Repr

/-- The instruction of a shape. -/
def Shape.instr : Shape → Instr
  | .hlt op => .hlt op
  | .inr r => inrInstr r
  | .dcr r => dcrInstr r
  | .unk op => .unk op
  | .aluImm p v => aluImmInstr p v
  | .mvi o v => mviInstr o v
  | .rotate k => rotateInstr k
  | .ret x => .ret x
  | .retIf k => retIfInstr k
  | .rst a => rstInstr a
  | .jmp x w => .jmp x w
  | .jumpIf k w => jumpIfInstr k w
  | .call x w => .call x w
  | .callIf k w => callIfInstr k w
  | .iop x => .iop x
  | .alu p o => aluInstr p o
  | .mov r q => movInstr r q
  | .movFromM r => movFromMInstr r
  | .movToM r => movToMInstr r

/-- The shape of an instruction. -/
def shapeOf : Instr → Shape
  | .hlt op => .hlt op
  | .inrB => .inr .b
  | .inrC => .inr .c
  | .inrD => .inr .d
  | .inrE => .inr .e
  | .inrH => .inr .h
  | .inrL => .inr .l
  | .dcrB => .dcr .b
  | .dcrC => .dcr .c
  | .dcrD => .dcr .d
  | .dcrE => .dcr .e
  | .dcrH => .dcr .h
  | .dcrL => .dcr .l
  | .unk op => .unk op
  | .adi v => .aluImm .add v
  | .aci v => .aluImm .adc v
  | .sui v => .aluImm .sub v
  | .sbi v => .aluImm .sbb v
  | .ani v => .aluImm .ana v
  | .xri v => .aluImm .xra v
  | .ori v => .aluImm .ora v
  | .cpi v => .aluImm .cmp v
  | .mviA v => .mvi (.reg .a) v
  | .mviB v => .mvi (.reg .b) v
  | .mviC v => .mvi (.reg .c) v
  | .mviD v => .mvi (.reg .d) v
  | .mviE v => .mvi (.reg .e) v
  | .mviH v => .mvi (.reg .h) v
  | .mviL v => .mvi (.reg .l) v
  | .mviM v => .mvi .m v
  | .rlc => .rotate .rlc
  | .rrc => .rotate .rrc
  | .ral => .rotate .ral
  | .rar => .rotate .rar
  | .ret x => .ret x
  | .rfc => .retIf ⟨.carry, false⟩
  | .rfz => .retIf ⟨.zero, false⟩
  | .rfs => .retIf ⟨.sign, false⟩
  | .rfp => .retIf ⟨.parity, false⟩
  | .rtc => .retIf ⟨.carry, true⟩
  | .rtz => .retIf ⟨.zero, true⟩
  | .rts => .retIf ⟨.sign, true⟩
  | .rtp => .retIf ⟨.parity, true⟩
  | .rst0 => .rst 0b000#3
  | .rst1 => .rst 0b001#3
  | .rst2 => .rst 0b010#3
  | .rst3 => .rst 0b011#3
  | .rst4 => .rst 0b100#3
  | .rst5 => .rst 0b101#3
  | .rst6 => .rst 0b110#3
  | .rst7 => .rst 0b111#3
  | .jmp x w => .jmp x w
  | .jfc w => .jumpIf ⟨.carry, false⟩ w
  | .jfz w => .jumpIf ⟨.zero, false⟩ w
  | .jfs w => .jumpIf ⟨.sign, false⟩ w
  | .jfp w => .jumpIf ⟨.parity, false⟩ w
  | .jtc w => .jumpIf ⟨.carry, true⟩ w
  | .jtz w => .jumpIf ⟨.zero, true⟩ w
  | .jts w => .jumpIf ⟨.sign, true⟩ w
  | .jtp w => .jumpIf ⟨.parity, true⟩ w
  | .call x w => .call x w
  | .cfc w => .callIf ⟨.carry, false⟩ w
  | .cfz w => .callIf ⟨.zero, false⟩ w
  | .cfs w => .callIf ⟨.sign, false⟩ w
  | .cfp w => .callIf ⟨.parity, false⟩ w
  | .ctc w => .callIf ⟨.carry, true⟩ w
  | .ctz w => .callIf ⟨.zero, true⟩ w
  | .cts w => .callIf ⟨.sign, true⟩ w
  | .ctp w => .callIf ⟨.parity, true⟩ w
  | .iop x => .iop x
  | .addA => .alu .add (.reg .a)
  | .addB => .alu .add (.reg .b)
  | .addC => .alu .add (.reg .c)
  | .addD => .alu .add (.reg .d)
  | .addE => .alu .add (.reg .e)
  | .addH => .alu .add (.reg .h)
  | .addL => .alu .add (.reg .l)
  | .addM => .alu .add .m
  | .adcA => .alu .adc (.reg .a)
  | .adcB => .alu .adc (.reg .b)
  | .adcC => .alu .adc (.reg .c)
  | .adcD => .alu .adc (.reg .d)
  | .adcE => .alu .adc (.reg .e)
  | .adcH => .alu .adc (.reg .h)
  | .adcL => .alu .adc (.reg .l)
  | .adcM => .alu .adc .m
  | .subA => .alu .sub (.reg .a)
  | .subB => .alu .sub (.reg .b)
  | .subC => .alu .sub (.reg .c)
  | .subD => .alu .sub (.reg .d)
  | .subE => .alu .sub (.reg .e)
  | .subH => .alu .sub (.reg .h)
  | .subL => .alu .sub (.reg .l)
  | .subM => .alu .sub .m
  | .sbbA => .alu .sbb (.reg .a)
  | .sbbB => .alu .sbb (.reg .b)
  | .sbbC => .alu .sbb (.reg .c)
  | .sbbD => .alu .sbb (.reg .d)
  | .sbbE => .alu .sbb (.reg .e)
  | .sbbH => .alu .sbb (.reg .h)
  | .sbbL => .alu .sbb (.reg .l)
  | .sbbM => .alu .sbb .m
  | .anaA => .alu .ana (.reg .a)
  | .anaB => .alu .ana (.reg .b)
  | .anaC => .alu .ana (.reg .c)
  | .anaD => .alu .ana (.reg .d)
  | .anaE => .alu .ana (.reg .e)
  | .anaH => .alu .ana (.reg .h)
  | .anaL => .alu .ana (.reg .l)
  | .anaM => .alu .ana .m
  | .xraA => .alu .xra (.reg .a)
  | .xraB => .alu .xra (.reg .b)
  | .xraC => .alu .xra (.reg .c)
  | .xraD => .alu .xra (.reg .d)
  | .xraE => .alu .xra (.reg .e)
  | .xraH => .alu .xra (.reg .h)
  | .xraL => .alu .xra (.reg .l)
  | .xraM => .alu .xra .m
  | .oraA => .alu .ora (.reg .a)
  | .oraB => .alu .ora (.reg .b)
  | .oraC => .alu .ora (.reg .c)
  | .oraD => .alu .ora (.reg .d)
  | .oraE => .alu .ora (.reg .e)
  | .oraH => .alu .ora (.reg .h)
  | .oraL => .alu .ora (.reg .l)
  | .oraM => .alu .ora .m
  | .cmpA => .alu .cmp (.reg .a)
  | .cmpB => .alu .cmp (.reg .b)
  | .cmpC => .alu .cmp (.reg .c)
  | .cmpD => .alu .cmp (.reg .d)
  | .cmpE => .alu .cmp (.reg .e)
  | .cmpH => .alu .cmp (.reg .h)
  | .cmpL => .alu .cmp (.reg .l)
  | .cmpM => .alu .cmp .m
  | .movAA => .mov .a .a
  | .movAB => .mov .a .b
  | .movAC => .mov .a .c
  | .movAD => .mov .a .d
  | .movAE => .mov .a .e
  | .movAH => .mov .a .h
  | .movAL => .mov .a .l
  | .movAM => .movFromM .a
  | .movBA => .mov .b .a
  | .movBB => .mov .b .b
  | .movBC => .mov .b .c
  | .movBD => .mov .b .d
  | .movBE => .mov .b .e
  | .movBH => .mov .b .h
  | .movBL => .mov .b .l
  | .movBM => .movFromM .b
  | .movCA => .mov .c .a
  | .movCB => .mov .c .b
  | .movCC => .mov .c .c
  | .movCD => .mov .c .d
  | .movCE => .mov .c .e
  | .movCH => .mov .c .h
  | .movCL => .mov .c .l
  | .movCM => .movFromM .c
  | .movDA => .mov .d .a
  | .movDB => .mov .d .b
  | .movDC => .mov .d .c
  | .movDD => .mov .d .d
  | .movDE => .mov .d .e
  | .movDH => .mov .d .h
  | .movDL => .mov .d .l
  | .movDM => .movFromM .d
  | .movEA => .mov .e .a
  | .movEB => .mov .e .b
  | .movEC => .mov .e .c
  | .movED => .mov .e .d
  | .movEE => .mov .e .e
  | .movEH => .mov .e .h
  | .movEL => .mov .e .l
  | .movEM => .movFromM .e
  | .movHA => .mov .h .a
  | .movHB => .mov .h .b
  | .movHC => .mov .h .c
  | .movHD => .mov .h .d
  | .movHE => .mov .h .e
  | .movHH => .mov .h .h
  | .movHL => .mov .h .l
  | .movHM => .movFromM .h
  | .movLA => .mov .l .a
  | .movLB => .mov .l .b
  | .movLC => .mov .l .c
  | .movLD => .mov .l .d
  | .movLE => .mov .l .e
  | .movLH => .mov .l .h
  | .movLL => .mov .l .l
  | .movLM => .movFromM .l
  | .movMA => .movToM .a
  | .movMB => .movToM .b
  | .movMC => .movToM .c
  | .movMD => .movToM .d
  | .movME => .movToM .e
  | .movMH => .movToM .h
  | .movML => .movToM .l

theorem instr_shapeOf (i : Instr) : (shapeOf i).instr = i := by cases i <;> rfl

/-- What the instruction of a shape does to the state. -/
def Shape.run : Shape → State → State
  | .hlt _, s => halt s
  | .inr r, s => incReg r.toReg s
  | .dcr r, s => decReg r.toReg s
  | .unk op, s => reportUnknown op s
  | .aluImm p v, s => aluImmediate p v s
  | .mvi o v, s => loadImmediate o v s
  | .rotate k, s => rotateAcc k s
  | .ret _, s => Sys2Proof.Machine.ret s
  | .retIf k, s => Sys2Proof.Machine.retIf k s
  | .rst a, s => restart a s
  | .jmp _ w, s => jump w s
  | .jumpIf k w, s => Sys2Proof.Machine.jumpIf k w s
  | .call _ w, s => Sys2Proof.Machine.call w s
  | .callIf k w, s => Sys2Proof.Machine.callIf k w s
  | .iop _, s => s
  | .alu p o, s => aluRegMem p o s
  | .mov r q, s => moveReg r q s
  | .movFromM r, s => loadReg r s
  | .movToM r, s => storeReg r s

/-- Every instruction runs as its shape says. -/
theorem exec_eq_run (i : Instr) (s : State) : exec i s = .next ((shapeOf i).run s) := by cases i <;> rfl

/-- The inversion lemma of `exec`: a next state is what the shape's action leaves, and the instruction is the shape's. -/
theorem exec_cases {i : Instr} {s t : State} (h : exec i s = .next t) : ∃ f : Shape, i = f.instr ∧ t = f.run s := by
  rw [exec_eq_run] at h
  exact ⟨shapeOf i, (instr_shapeOf i).symm, by injection h with h; exact h.symm⟩

/-- The shape's instruction runs as the shape says: the form a statement about a named shape uses. -/
theorem exec_instr (f : Shape) (s : State) : exec f.instr s = .next (f.run s) := by
  cases f with
  | inr r => cases r <;> rfl
  | dcr r => cases r <;> rfl
  | aluImm p v => cases p <;> rfl
  | mvi o v => cases o with
    | m => rfl
    | reg r => cases r <;> rfl
  | rotate k => cases k <;> rfl
  | retIf k => obtain ⟨n, b⟩ := k; cases n <;> cases b <;> rfl
  | jumpIf k w => obtain ⟨n, b⟩ := k; cases n <;> cases b <;> rfl
  | callIf k w => obtain ⟨n, b⟩ := k; cases n <;> cases b <;> rfl
  | rst a =>
    have h : ∀ a : BitVec 3, exec (rstInstr a) s = .next (restart a s) := fun a => by
      match a with
      | 0b000#3 | 0b001#3 | 0b010#3 | 0b011#3 | 0b100#3 | 0b101#3 | 0b110#3 | 0b111#3 => rfl
    exact h a
  | alu p o => cases o with
    | m => cases p <;> rfl
    | reg r => cases p <;> cases r <;> rfl
  | mov r q => cases r <;> cases q <;> rfl
  | movFromM r => cases r <;> rfl
  | movToM r => cases r <;> rfl
  | _ => rfl

end Sys2Proof.Laws
end

