-- ==== Sys2Proof/Laws/Fetch.lean ====
section
/-! SUPPORT. What the fetch of one instruction does, and how a step is put together. -/

namespace Sys2Proof.Machine

/-- The three bytes at the program counter, wrapping at the top of the space. -/
def fetchWindow (s : State) : List Byte := [s.memRead s.pc, s.memRead (s.pc + 1#14), s.memRead (s.pc + 2#14)]

/-- An instruction's length is 1, 2 or 3. -/
theorem instrLength_cases (op : Byte) : instrLength op = 1 ∨ instrLength op = 2 ∨ instrLength op = 3 := by
  unfold instrLength
  split
  · exact .inr (.inl rfl)
  · split
    · exact .inr (.inr rfl)
    · exact .inl rfl

/-- The fetch reads what decoding the bytes at pc reads, and moves pc past the bytes decoding takes; nothing else
changes. -/
theorem fetchInstr_spec (s : State) :
    ∃ rest, decode (fetchWindow s) = .ok ((fetchInstr s).1, rest) ∧ rest.length < 3 ∧
      (fetchInstr s).2 = s.setPc (s.pc + BitVec.ofNat 14 (3 - rest.length)) := by
  have hp : ∀ p : Addr, p + 1#14 + 1#14 = p + 2#14 := fun p => by rw [BitVec.add_assoc]; rfl
  have hq : ∀ p : Addr, p + 1#14 + 1#14 + 1#14 = p + 3#14 := fun p => by rw [BitVec.add_assoc, BitVec.add_assoc]; rfl
  rcases instrLength_cases (s.memRead s.pc) with h | h | h
  · exact ⟨[s.memRead (s.pc + 1#14), s.memRead (s.pc + 2#14)],
      by simp only [fetchWindow, decode, fetchInstr, State.fetch8, h], by simp,
      by simp only [fetchInstr, State.fetch8, h]; rfl⟩
  · exact ⟨[s.memRead (s.pc + 2#14)],
      by simp only [fetchWindow, decode, fetchInstr, State.fetch8, h]; rfl, by simp,
      by simp only [fetchInstr, State.fetch8, h]
         rw [← show s.pc + 1#14 + 1#14 = s.pc + BitVec.ofNat 14 (3 - [s.memRead (s.pc + 2#14)].length) from hp _]
         rfl⟩
  · refine ⟨[], ?_, by simp, ?_⟩
    · simp only [fetchWindow, decode, fetchInstr, State.fetch8, State.fetch16, h, ← hp]; rfl
    · simp only [fetchInstr, State.fetch8, State.fetch16, h]
      rw [← show s.pc + 1#14 + 1#14 + 1#14 = s.pc + BitVec.ofNat 14 (3 - ([] : List Byte).length) from hq _]
      rfl

/-- The inversion lemma of `step`: the shape of the instruction at pc acts on the state with the latch cleared, the
output emptied and pc past the instruction. -/
theorem step_cases {s t : State} (h : step s = .next t) :
    ∃ (f : Laws.Shape) (rest : List Byte), decode (fetchWindow s) = .ok (f.instr, rest) ∧ rest.length < 3 ∧
      t = f.run (s.beginStep.setPc (s.pc + BitVec.ofNat 14 (3 - rest.length))) := by
  obtain ⟨f, hf, ht⟩ := Laws.exec_cases h
  obtain ⟨rest, hd, hr, hs⟩ := fetchInstr_spec s.beginStep
  exact ⟨f, rest, by rw [← hf]; exact hd, hr, by rw [ht, hs]; rfl⟩

/-- Every step answers what its instruction's shape leaves. -/
theorem step_eq_run (s : State) :
    step s = .next ((Laws.shapeOf (fetchInstr s.beginStep).1).run (fetchInstr s.beginStep).2) :=
  Laws.exec_eq_run _ _

end Sys2Proof.Machine
end

