-- ==== Sys2Proof/Laws/PerInstr.lean ====
section
/-! SUPPORT. Laws stated per instruction. EncodeLength: the encoder gives as many bytes as the spec's length (R70). -/

namespace Sys2Proof.Laws.EncodeLength

/-- The encoding of `i` has the length of `i`, whatever its operands are. -/
def Statement (i : Instr) : Prop := (encode i).length = i.size

theorem hlt (op : Byte) : Statement (Instr.hlt op) := rfl
theorem inrB : Statement (Instr.inrB) := rfl
theorem inrC : Statement (Instr.inrC) := rfl
theorem inrD : Statement (Instr.inrD) := rfl
theorem inrE : Statement (Instr.inrE) := rfl
theorem inrH : Statement (Instr.inrH) := rfl
theorem inrL : Statement (Instr.inrL) := rfl
theorem dcrB : Statement (Instr.dcrB) := rfl
theorem dcrC : Statement (Instr.dcrC) := rfl
theorem dcrD : Statement (Instr.dcrD) := rfl
theorem dcrE : Statement (Instr.dcrE) := rfl
theorem dcrH : Statement (Instr.dcrH) := rfl
theorem dcrL : Statement (Instr.dcrL) := rfl
theorem unk (op : Byte) : Statement (Instr.unk op) := rfl
theorem adi (v : Byte) : Statement (Instr.adi v) := rfl
theorem aci (v : Byte) : Statement (Instr.aci v) := rfl
theorem sui (v : Byte) : Statement (Instr.sui v) := rfl
theorem sbi (v : Byte) : Statement (Instr.sbi v) := rfl
theorem ani (v : Byte) : Statement (Instr.ani v) := rfl
theorem xri (v : Byte) : Statement (Instr.xri v) := rfl
theorem ori (v : Byte) : Statement (Instr.ori v) := rfl
theorem cpi (v : Byte) : Statement (Instr.cpi v) := rfl
theorem mviA (v : Byte) : Statement (Instr.mviA v) := rfl
theorem mviB (v : Byte) : Statement (Instr.mviB v) := rfl
theorem mviC (v : Byte) : Statement (Instr.mviC v) := rfl
theorem mviD (v : Byte) : Statement (Instr.mviD v) := rfl
theorem mviE (v : Byte) : Statement (Instr.mviE v) := rfl
theorem mviH (v : Byte) : Statement (Instr.mviH v) := rfl
theorem mviL (v : Byte) : Statement (Instr.mviL v) := rfl
theorem mviM (v : Byte) : Statement (Instr.mviM v) := rfl
theorem rlc : Statement (Instr.rlc) := rfl
theorem rrc : Statement (Instr.rrc) := rfl
theorem ral : Statement (Instr.ral) := rfl
theorem rar : Statement (Instr.rar) := rfl
theorem ret (x : BitVec 3) : Statement (Instr.ret x) := rfl
theorem rfc : Statement (Instr.rfc) := rfl
theorem rfz : Statement (Instr.rfz) := rfl
theorem rfs : Statement (Instr.rfs) := rfl
theorem rfp : Statement (Instr.rfp) := rfl
theorem rtc : Statement (Instr.rtc) := rfl
theorem rtz : Statement (Instr.rtz) := rfl
theorem rts : Statement (Instr.rts) := rfl
theorem rtp : Statement (Instr.rtp) := rfl
theorem rst0 : Statement (Instr.rst0) := rfl
theorem rst1 : Statement (Instr.rst1) := rfl
theorem rst2 : Statement (Instr.rst2) := rfl
theorem rst3 : Statement (Instr.rst3) := rfl
theorem rst4 : Statement (Instr.rst4) := rfl
theorem rst5 : Statement (Instr.rst5) := rfl
theorem rst6 : Statement (Instr.rst6) := rfl
theorem rst7 : Statement (Instr.rst7) := rfl
theorem jmp (x : BitVec 3) (w : Word) : Statement (Instr.jmp x w) := rfl
theorem jfc (w : Word) : Statement (Instr.jfc w) := rfl
theorem jfz (w : Word) : Statement (Instr.jfz w) := rfl
theorem jfs (w : Word) : Statement (Instr.jfs w) := rfl
theorem jfp (w : Word) : Statement (Instr.jfp w) := rfl
theorem jtc (w : Word) : Statement (Instr.jtc w) := rfl
theorem jtz (w : Word) : Statement (Instr.jtz w) := rfl
theorem jts (w : Word) : Statement (Instr.jts w) := rfl
theorem jtp (w : Word) : Statement (Instr.jtp w) := rfl
theorem call (x : BitVec 3) (w : Word) : Statement (Instr.call x w) := rfl
theorem cfc (w : Word) : Statement (Instr.cfc w) := rfl
theorem cfz (w : Word) : Statement (Instr.cfz w) := rfl
theorem cfs (w : Word) : Statement (Instr.cfs w) := rfl
theorem cfp (w : Word) : Statement (Instr.cfp w) := rfl
theorem ctc (w : Word) : Statement (Instr.ctc w) := rfl
theorem ctz (w : Word) : Statement (Instr.ctz w) := rfl
theorem cts (w : Word) : Statement (Instr.cts w) := rfl
theorem ctp (w : Word) : Statement (Instr.ctp w) := rfl
theorem iop (x : BitVec 5) : Statement (Instr.iop x) := rfl
theorem addA : Statement (Instr.addA) := rfl
theorem addB : Statement (Instr.addB) := rfl
theorem addC : Statement (Instr.addC) := rfl
theorem addD : Statement (Instr.addD) := rfl
theorem addE : Statement (Instr.addE) := rfl
theorem addH : Statement (Instr.addH) := rfl
theorem addL : Statement (Instr.addL) := rfl
theorem addM : Statement (Instr.addM) := rfl
theorem adcA : Statement (Instr.adcA) := rfl
theorem adcB : Statement (Instr.adcB) := rfl
theorem adcC : Statement (Instr.adcC) := rfl
theorem adcD : Statement (Instr.adcD) := rfl
theorem adcE : Statement (Instr.adcE) := rfl
theorem adcH : Statement (Instr.adcH) := rfl
theorem adcL : Statement (Instr.adcL) := rfl
theorem adcM : Statement (Instr.adcM) := rfl
theorem subA : Statement (Instr.subA) := rfl
theorem subB : Statement (Instr.subB) := rfl
theorem subC : Statement (Instr.subC) := rfl
theorem subD : Statement (Instr.subD) := rfl
theorem subE : Statement (Instr.subE) := rfl
theorem subH : Statement (Instr.subH) := rfl
theorem subL : Statement (Instr.subL) := rfl
theorem subM : Statement (Instr.subM) := rfl
theorem sbbA : Statement (Instr.sbbA) := rfl
theorem sbbB : Statement (Instr.sbbB) := rfl
theorem sbbC : Statement (Instr.sbbC) := rfl
theorem sbbD : Statement (Instr.sbbD) := rfl
theorem sbbE : Statement (Instr.sbbE) := rfl
theorem sbbH : Statement (Instr.sbbH) := rfl
theorem sbbL : Statement (Instr.sbbL) := rfl
theorem sbbM : Statement (Instr.sbbM) := rfl
theorem anaA : Statement (Instr.anaA) := rfl
theorem anaB : Statement (Instr.anaB) := rfl
theorem anaC : Statement (Instr.anaC) := rfl
theorem anaD : Statement (Instr.anaD) := rfl
theorem anaE : Statement (Instr.anaE) := rfl
theorem anaH : Statement (Instr.anaH) := rfl
theorem anaL : Statement (Instr.anaL) := rfl
theorem anaM : Statement (Instr.anaM) := rfl
theorem xraA : Statement (Instr.xraA) := rfl
theorem xraB : Statement (Instr.xraB) := rfl
theorem xraC : Statement (Instr.xraC) := rfl
theorem xraD : Statement (Instr.xraD) := rfl
theorem xraE : Statement (Instr.xraE) := rfl
theorem xraH : Statement (Instr.xraH) := rfl
theorem xraL : Statement (Instr.xraL) := rfl
theorem xraM : Statement (Instr.xraM) := rfl
theorem oraA : Statement (Instr.oraA) := rfl
theorem oraB : Statement (Instr.oraB) := rfl
theorem oraC : Statement (Instr.oraC) := rfl
theorem oraD : Statement (Instr.oraD) := rfl
theorem oraE : Statement (Instr.oraE) := rfl
theorem oraH : Statement (Instr.oraH) := rfl
theorem oraL : Statement (Instr.oraL) := rfl
theorem oraM : Statement (Instr.oraM) := rfl
theorem cmpA : Statement (Instr.cmpA) := rfl
theorem cmpB : Statement (Instr.cmpB) := rfl
theorem cmpC : Statement (Instr.cmpC) := rfl
theorem cmpD : Statement (Instr.cmpD) := rfl
theorem cmpE : Statement (Instr.cmpE) := rfl
theorem cmpH : Statement (Instr.cmpH) := rfl
theorem cmpL : Statement (Instr.cmpL) := rfl
theorem cmpM : Statement (Instr.cmpM) := rfl
theorem movAA : Statement (Instr.movAA) := rfl
theorem movAB : Statement (Instr.movAB) := rfl
theorem movAC : Statement (Instr.movAC) := rfl
theorem movAD : Statement (Instr.movAD) := rfl
theorem movAE : Statement (Instr.movAE) := rfl
theorem movAH : Statement (Instr.movAH) := rfl
theorem movAL : Statement (Instr.movAL) := rfl
theorem movAM : Statement (Instr.movAM) := rfl
theorem movBA : Statement (Instr.movBA) := rfl
theorem movBB : Statement (Instr.movBB) := rfl
theorem movBC : Statement (Instr.movBC) := rfl
theorem movBD : Statement (Instr.movBD) := rfl
theorem movBE : Statement (Instr.movBE) := rfl
theorem movBH : Statement (Instr.movBH) := rfl
theorem movBL : Statement (Instr.movBL) := rfl
theorem movBM : Statement (Instr.movBM) := rfl
theorem movCA : Statement (Instr.movCA) := rfl
theorem movCB : Statement (Instr.movCB) := rfl
theorem movCC : Statement (Instr.movCC) := rfl
theorem movCD : Statement (Instr.movCD) := rfl
theorem movCE : Statement (Instr.movCE) := rfl
theorem movCH : Statement (Instr.movCH) := rfl
theorem movCL : Statement (Instr.movCL) := rfl
theorem movCM : Statement (Instr.movCM) := rfl
theorem movDA : Statement (Instr.movDA) := rfl
theorem movDB : Statement (Instr.movDB) := rfl
theorem movDC : Statement (Instr.movDC) := rfl
theorem movDD : Statement (Instr.movDD) := rfl
theorem movDE : Statement (Instr.movDE) := rfl
theorem movDH : Statement (Instr.movDH) := rfl
theorem movDL : Statement (Instr.movDL) := rfl
theorem movDM : Statement (Instr.movDM) := rfl
theorem movEA : Statement (Instr.movEA) := rfl
theorem movEB : Statement (Instr.movEB) := rfl
theorem movEC : Statement (Instr.movEC) := rfl
theorem movED : Statement (Instr.movED) := rfl
theorem movEE : Statement (Instr.movEE) := rfl
theorem movEH : Statement (Instr.movEH) := rfl
theorem movEL : Statement (Instr.movEL) := rfl
theorem movEM : Statement (Instr.movEM) := rfl
theorem movHA : Statement (Instr.movHA) := rfl
theorem movHB : Statement (Instr.movHB) := rfl
theorem movHC : Statement (Instr.movHC) := rfl
theorem movHD : Statement (Instr.movHD) := rfl
theorem movHE : Statement (Instr.movHE) := rfl
theorem movHH : Statement (Instr.movHH) := rfl
theorem movHL : Statement (Instr.movHL) := rfl
theorem movHM : Statement (Instr.movHM) := rfl
theorem movLA : Statement (Instr.movLA) := rfl
theorem movLB : Statement (Instr.movLB) := rfl
theorem movLC : Statement (Instr.movLC) := rfl
theorem movLD : Statement (Instr.movLD) := rfl
theorem movLE : Statement (Instr.movLE) := rfl
theorem movLH : Statement (Instr.movLH) := rfl
theorem movLL : Statement (Instr.movLL) := rfl
theorem movLM : Statement (Instr.movLM) := rfl
theorem movMA : Statement (Instr.movMA) := rfl
theorem movMB : Statement (Instr.movMB) := rfl
theorem movMC : Statement (Instr.movMC) := rfl
theorem movMD : Statement (Instr.movMD) := rfl
theorem movME : Statement (Instr.movME) := rfl
theorem movMH : Statement (Instr.movMH) := rfl
theorem movML : Statement (Instr.movML) := rfl

end Sys2Proof.Laws.EncodeLength
end

