-- ==== Sys2Proof/Tests/Slice0.lean ====
section
/-! SUPPORT. Tests of decoding and of single steps, and witnesses for the statements. Expected results come from
the spec: the opcode map of 30_encoding.md R86, the worked examples (S) and the vectors (V) of 95_test_vectors.md, and the rules by hand. The witnesses show that the hypotheses of each statement of
Certificates/Slice0/Obligations.lean are met by some state and operands. -/

namespace Sys2Proof.Tests

open Sys2Proof.Machine Sys2Proof.Safety

/-! ## Well-formedness: what decoding never gives is refused -/

theorem test_wf_halt_accepts : (Instr.hlt 0x00#8).wf ∧ (Instr.hlt 0x01#8).wf ∧ (Instr.hlt 0xFF#8).wf := by decide

theorem test_wf_halt_refuses : (Instr.hlt 0x02#8).wf = false ∧ (Instr.hlt 0xFE#8).wf = false := by decide

theorem test_wf_unknown_accepts : ∀ op ∈ [0x22#8, 0x2A#8, 0x32#8, 0x38#8, 0x39#8, 0x3A#8], (Instr.unk op).wf := by decide

theorem test_wf_unknown_refuses : (Instr.unk 0x00#8).wf = false ∧ (Instr.unk 0x3B#8).wf = false := by decide

/-! ## Decoding: the opcode map of R86, row by row, each opcode followed by the bytes 0x34 and 0x12 -/

/-- The instructions of one row of the map. -/
def decodeRow (hi : BitVec 4) : List (Option Instr) :=
  (List.range 16).map fun lo =>
    match decode [hi ++ BitVec.ofNat 4 lo, 0x34#8, 0x12#8] with
    | .ok (i, _) => some i
    | .error _ => none

theorem test_decode_row_0 : decodeRow 0x0#4 =
    [some (.hlt 0x00#8), some (.hlt 0x01#8), some .rlc, some .rfc,
     some (.adi 0x34#8), some .rst0, some (.mviA 0x34#8), some (.ret 0#3),
     some .inrB, some .dcrB, some .rrc, some .rfz,
     some (.aci 0x34#8), some .rst1, some (.mviB 0x34#8), some (.ret 1#3)] := by
  decide

theorem test_decode_row_1 : decodeRow 0x1#4 =
    [some .inrC, some .dcrC, some .ral, some .rfs,
     some (.sui 0x34#8), some .rst2, some (.mviC 0x34#8), some (.ret 2#3),
     some .inrD, some .dcrD, some .rar, some .rfp,
     some (.sbi 0x34#8), some .rst3, some (.mviD 0x34#8), some (.ret 3#3)] := by
  decide

theorem test_decode_row_2 : decodeRow 0x2#4 =
    [some .inrE, some .dcrE, some (.unk 0x22#8), some .rtc,
     some (.ani 0x34#8), some .rst4, some (.mviE 0x34#8), some (.ret 4#3),
     some .inrH, some .dcrH, some (.unk 0x2A#8), some .rtz,
     some (.xri 0x34#8), some .rst5, some (.mviH 0x34#8), some (.ret 5#3)] := by
  decide

theorem test_decode_row_3 : decodeRow 0x3#4 =
    [some .inrL, some .dcrL, some (.unk 0x32#8), some .rts,
     some (.ori 0x34#8), some .rst6, some (.mviL 0x34#8), some (.ret 6#3),
     some (.unk 0x38#8), some (.unk 0x39#8), some (.unk 0x3A#8), some .rtp,
     some (.cpi 0x34#8), some .rst7, some (.mviM 0x34#8), some (.ret 7#3)] := by
  decide

theorem test_decode_row_4 : decodeRow 0x4#4 =
    [some (.jfc 0x1234#16), some (.iop 0b00000#5), some (.cfc 0x1234#16), some (.iop 0b00001#5),
     some (.jmp 0#3 0x1234#16), some (.iop 0b00010#5), some (.call 0#3 0x1234#16), some (.iop 0b00011#5),
     some (.jfz 0x1234#16), some (.iop 0b00100#5), some (.cfz 0x1234#16), some (.iop 0b00101#5),
     some (.jmp 1#3 0x1234#16), some (.iop 0b00110#5), some (.call 1#3 0x1234#16), some (.iop 0b00111#5)] := by
  decide

theorem test_decode_row_5 : decodeRow 0x5#4 =
    [some (.jfs 0x1234#16), some (.iop 0b01000#5), some (.cfs 0x1234#16), some (.iop 0b01001#5),
     some (.jmp 2#3 0x1234#16), some (.iop 0b01010#5), some (.call 2#3 0x1234#16), some (.iop 0b01011#5),
     some (.jfp 0x1234#16), some (.iop 0b01100#5), some (.cfp 0x1234#16), some (.iop 0b01101#5),
     some (.jmp 3#3 0x1234#16), some (.iop 0b01110#5), some (.call 3#3 0x1234#16), some (.iop 0b01111#5)] := by
  decide

theorem test_decode_row_6 : decodeRow 0x6#4 =
    [some (.jtc 0x1234#16), some (.iop 0b10000#5), some (.ctc 0x1234#16), some (.iop 0b10001#5),
     some (.jmp 4#3 0x1234#16), some (.iop 0b10010#5), some (.call 4#3 0x1234#16), some (.iop 0b10011#5),
     some (.jtz 0x1234#16), some (.iop 0b10100#5), some (.ctz 0x1234#16), some (.iop 0b10101#5),
     some (.jmp 5#3 0x1234#16), some (.iop 0b10110#5), some (.call 5#3 0x1234#16), some (.iop 0b10111#5)] := by
  decide

theorem test_decode_row_7 : decodeRow 0x7#4 =
    [some (.jts 0x1234#16), some (.iop 0b11000#5), some (.cts 0x1234#16), some (.iop 0b11001#5),
     some (.jmp 6#3 0x1234#16), some (.iop 0b11010#5), some (.call 6#3 0x1234#16), some (.iop 0b11011#5),
     some (.jtp 0x1234#16), some (.iop 0b11100#5), some (.ctp 0x1234#16), some (.iop 0b11101#5),
     some (.jmp 7#3 0x1234#16), some (.iop 0b11110#5), some (.call 7#3 0x1234#16), some (.iop 0b11111#5)] := by
  decide

theorem test_decode_row_8 : decodeRow 0x8#4 =
    [some .addA, some .addB, some .addC, some .addD,
     some .addE, some .addH, some .addL, some .addM,
     some .adcA, some .adcB, some .adcC, some .adcD,
     some .adcE, some .adcH, some .adcL, some .adcM] := by
  decide

theorem test_decode_row_9 : decodeRow 0x9#4 =
    [some .subA, some .subB, some .subC, some .subD,
     some .subE, some .subH, some .subL, some .subM,
     some .sbbA, some .sbbB, some .sbbC, some .sbbD,
     some .sbbE, some .sbbH, some .sbbL, some .sbbM] := by
  decide

theorem test_decode_row_A : decodeRow 0xA#4 =
    [some .anaA, some .anaB, some .anaC, some .anaD,
     some .anaE, some .anaH, some .anaL, some .anaM,
     some .xraA, some .xraB, some .xraC, some .xraD,
     some .xraE, some .xraH, some .xraL, some .xraM] := by
  decide

theorem test_decode_row_B : decodeRow 0xB#4 =
    [some .oraA, some .oraB, some .oraC, some .oraD,
     some .oraE, some .oraH, some .oraL, some .oraM,
     some .cmpA, some .cmpB, some .cmpC, some .cmpD,
     some .cmpE, some .cmpH, some .cmpL, some .cmpM] := by
  decide

theorem test_decode_row_C : decodeRow 0xC#4 =
    [some .movAA, some .movAB, some .movAC, some .movAD,
     some .movAE, some .movAH, some .movAL, some .movAM,
     some .movBA, some .movBB, some .movBC, some .movBD,
     some .movBE, some .movBH, some .movBL, some .movBM] := by
  decide

theorem test_decode_row_D : decodeRow 0xD#4 =
    [some .movCA, some .movCB, some .movCC, some .movCD,
     some .movCE, some .movCH, some .movCL, some .movCM,
     some .movDA, some .movDB, some .movDC, some .movDD,
     some .movDE, some .movDH, some .movDL, some .movDM] := by
  decide

theorem test_decode_row_E : decodeRow 0xE#4 =
    [some .movEA, some .movEB, some .movEC, some .movED,
     some .movEE, some .movEH, some .movEL, some .movEM,
     some .movHA, some .movHB, some .movHC, some .movHD,
     some .movHE, some .movHH, some .movHL, some .movHM] := by
  decide

theorem test_decode_row_F : decodeRow 0xF#4 =
    [some .movLA, some .movLB, some .movLC, some .movLD,
     some .movLE, some .movLH, some .movLL, some .movLM,
     some .movMA, some .movMB, some .movMC, some .movMD,
     some .movME, some .movMH, some .movML, some (.hlt 0xFF#8)] := by
  decide

/-! Words written bit by bit from the patterns of R82 to R85, one for each family and format. -/

/-- R121, R122. -/
theorem test_word_inr_dcr : decode [0b00001000#8] = .ok (.inrB, []) ∧ decode [0b00110001#8] = .ok (.dcrL, []) := by decide

/-- R124. -/
theorem test_word_alu_immediate : decode [0b00111100#8, 0xA5#8] = .ok (.cpi 0xA5#8, []) ∧ decode [0b00011100#8, 0x01#8] = .ok (.sbi 0x01#8, []) := by decide

/-- R133, R134. -/
theorem test_word_load_immediate : decode [0b00101110#8, 0x7F#8] = .ok (.mviH 0x7F#8, []) ∧ decode [0b00111110#8, 0x7F#8] = .ok (.mviM 0x7F#8, []) := by decide

/-- R76. -/
theorem test_word_rotate : decode [0b00010010#8] = .ok (.ral, []) ∧ decode [0b00001010#8] = .ok (.rrc, []) := by decide

/-- R150, R151. -/
theorem test_word_return : decode [0b00111111#8] = .ok (.ret 0b111#3, []) ∧ decode [0b00101011#8] = .ok (.rtz, []) := by decide

/-- R77. -/
theorem test_word_restart : decode [0b00111101#8] = .ok (.rst7, []) ∧ decode [0b00000101#8] = .ok (.rst0, []) := by decide

/-- R79, R160, R161. -/
theorem test_word_jump : decode [0b01111100#8, 0x34#8, 0xD2#8] = .ok (.jmp 0b111#3 0xD234#16, []) ∧ decode [0b01100000#8, 0x00#8, 0x02#8] = .ok (.jtc 0x0200#16, []) := by decide

/-- R162, R163. -/
theorem test_word_call : decode [0b01001110#8, 0x00#8, 0x02#8] = .ok (.call 0b001#3 0x0200#16, []) ∧ decode [0b01001010#8, 0x00#8, 0x02#8] = .ok (.cfz 0x0200#16, []) := by decide

/-- R175. -/
theorem test_word_alu_register : decode [0b10001111#8] = .ok (.adcM, []) ∧ decode [0b10111001#8] = .ok (.cmpB, []) := by decide

/-- R200 to R202. -/
theorem test_word_move : decode [0b11110000#8] = .ok (.movLA, []) ∧ decode [0b11101111#8] = .ok (.movHM, []) := by decide

/-- R120, R168, R203. -/
theorem test_word_system : decode [0b11111111#8] = .ok (.hlt 0xFF#8, []) ∧ decode [0b01000001#8] = .ok (.iop 0b00000#5, []) := by decide

/-- The table's numbering: the first byte is the low one, and the operand bytes above `nbits` are 0. -/
theorem test_table_word : decodeTableWord 24 0xD2347C = some (.jmp 0b111#3 0xD234#16) ∧
    decodeTableWord 8 0x44 = some (.jmp 0b000#3 0x0000#16) ∧ decodeTableWord 16 0x3404 = some (.adi 0x34#8) := by decide

/-! ## One step: the vectors of 95_test_vectors.md -/

/-- The reset state with the bytes at `pc`. -/
def at_ (pc : Addr) (bytes : List Byte) : State := ({ State.reset with pc := pc } : State).memWriteList pc bytes

/-- The step from `s` answers `s` with the latch cleared and then changed by `f`, and nothing else. -/
def becomes (s : State) (f : State → State) : Bool :=
  match step s with
  | .next t => decide (t = f { s with halted := false })
  | .fault _ => false
  | .refused _ => false

/-- V1, R121: INR B wraps 0xFF. -/
theorem test_v1_inr_b_wraps_0xff : becomes
    { at_ 0x0100#14 [0x08#8] with regs := { State.reset.regs with b := 0xFF#8 }, flags := { State.reset.flags with fc := true } }
    (fun t => { t with regs := { t.regs with b := 0x00#8 }, pc := 0x0101#14, flags := ⟨false, true, true, true⟩ }) := by
  decide

/-- V2, R121: INR L 0x7F to 0x80. -/
theorem test_v2_inr_l_0x7f_to_0x80 : becomes
    { at_ 0x0100#14 [0x30#8] with regs := { State.reset.regs with l := 0x7F#8 } }
    (fun t => { t with regs := { t.regs with l := 0x80#8 }, pc := 0x0101#14, flags := ⟨true, false, false, false⟩ }) := by
  decide

/-- V3, R122: DCR B wraps 0x00 (D27). -/
theorem test_v3_dcr_b_wraps_0x00 : becomes
    { at_ 0x0100#14 [0x09#8] with regs := { State.reset.regs with b := 0x00#8 } }
    (fun t => { t with regs := { t.regs with b := 0xFF#8 }, pc := 0x0101#14, flags := ⟨true, false, true, false⟩ }) := by
  decide

/-- V4, R122: DCR H 0x01 to 0. -/
theorem test_v4_dcr_h_0x01_to_0 : becomes
    { at_ 0x0100#14 [0x29#8] with regs := { State.reset.regs with h := 0x01#8 }, flags := { State.reset.flags with fc := true } }
    (fun t => { t with regs := { t.regs with h := 0x00#8 }, pc := 0x0101#14, flags := ⟨false, true, true, true⟩ }) := by
  decide

/-- V5, R123: 0x38 (increment of M) is unknown. -/
theorem test_v5_0x38 : becomes
    { at_ 0x0100#14 [0x38#8] with regs := { State.reset.regs with h := 0x01#8, l := 0x00#8 } }
    (fun t => { t with pc := 0x0101#14, flags := ⟨false, false, false, false⟩, diag := [.unknownOpcode 0x38#8 0x0100#14] }) := by
  decide

/-- V7, R125: ADI to exactly 256. -/
theorem test_v7_adi_to_exactly_256 : becomes
    { at_ 0x0100#14 [0x04#8, 0x01#8] with regs := { State.reset.regs with a := 0xFF#8 } }
    (fun t => { t with regs := { t.regs with a := 0x00#8 }, pc := 0x0102#14, flags := ⟨false, true, true, true⟩ }) := by
  decide

/-- V8, R125: ADI sum 255, old carry ignored. -/
theorem test_v8_adi_sum_255_old_carry_ignored : becomes
    { at_ 0x0100#14 [0x04#8, 0x0F#8] with regs := { State.reset.regs with a := 0xF0#8 }, flags := { State.reset.flags with fc := true } }
    (fun t => { t with regs := { t.regs with a := 0xFF#8 }, pc := 0x0102#14, flags := ⟨true, false, true, false⟩ }) := by
  decide

/-- V9, R126: ACI: the carry in tips the sum over 255 (D8). -/
theorem test_v9_aci_the_carry_in_tips_the_sum : becomes
    { at_ 0x0100#14 [0x0C#8, 0x0F#8] with regs := { State.reset.regs with a := 0xF0#8 }, flags := { State.reset.flags with fc := true } }
    (fun t => { t with regs := { t.regs with a := 0x00#8 }, pc := 0x0102#14, flags := ⟨false, true, true, true⟩ }) := by
  decide

/-- V10, R126: ACI maximum, t = 511. -/
theorem test_v10_aci_maximum_t_511 : becomes
    { at_ 0x0100#14 [0x0C#8, 0xFF#8] with regs := { State.reset.regs with a := 0xFF#8 }, flags := { State.reset.flags with fc := true } }
    (fun t => { t with pc := 0x0102#14, flags := ⟨true, false, true, true⟩ }) := by
  decide

/-- V11, R127: SUI equal operands. -/
theorem test_v11_sui_equal_operands : becomes
    { at_ 0x0100#14 [0x14#8, 0x42#8] with regs := { State.reset.regs with a := 0x42#8 }, flags := { State.reset.flags with fc := true } }
    (fun t => { t with regs := { t.regs with a := 0x00#8 }, pc := 0x0102#14, flags := ⟨false, true, true, false⟩ }) := by
  decide

/-- V12, R127: SUI borrow. -/
theorem test_v12_sui_borrow : becomes
    { at_ 0x0100#14 [0x14#8, 0x01#8] with regs := { State.reset.regs with a := 0x00#8 } }
    (fun t => { t with regs := { t.regs with a := 0xFF#8 }, pc := 0x0102#14, flags := ⟨true, false, true, true⟩ }) := by
  decide

/-- V13, R128: SBI equal operands with borrow in (D8). -/
theorem test_v13_sbi_equal_operands_with_borrow_in : becomes
    { at_ 0x0100#14 [0x1C#8, 0x42#8] with regs := { State.reset.regs with a := 0x42#8 }, flags := { State.reset.flags with fc := true } }
    (fun t => { t with regs := { t.regs with a := 0xFF#8 }, pc := 0x0102#14, flags := ⟨true, false, true, true⟩ }) := by
  decide

/-- V14, R128: SBI 0xFF with borrow in subtracts 256. -/
theorem test_v14_sbi_0xff_with_borrow_in_subtracts_256 : becomes
    { at_ 0x0100#14 [0x1C#8, 0xFF#8] with regs := { State.reset.regs with a := 0x33#8 }, flags := { State.reset.flags with fc := true } }
    (fun t => { t with pc := 0x0102#14, flags := ⟨false, false, true, true⟩ }) := by
  decide

/-- V16, R129: ANI 0xFF keeps A, clears carry. -/
theorem test_v16_ani_0xff_keeps_a_clears_carry : becomes
    { at_ 0x0100#14 [0x24#8, 0xFF#8] with regs := { State.reset.regs with a := 0x80#8 }, flags := { State.reset.flags with fc := true } }
    (fun t => { t with pc := 0x0102#14, flags := ⟨true, false, false, false⟩ }) := by
  decide

/-- V17, R130: XRI 0xFF complements. -/
theorem test_v17_xri_0xff_complements : becomes
    { at_ 0x0100#14 [0x2C#8, 0xFF#8] with regs := { State.reset.regs with a := 0x0F#8 }, flags := { State.reset.flags with fc := true } }
    (fun t => { t with regs := { t.regs with a := 0xF0#8 }, pc := 0x0102#14, flags := ⟨true, false, true, false⟩ }) := by
  decide

/-- V18, R131: ORI 0 on zero. -/
theorem test_v18_ori_0_on_zero : becomes
    { at_ 0x0100#14 [0x34#8, 0x00#8] with regs := { State.reset.regs with a := 0x00#8 }, flags := { State.reset.flags with fc := true } }
    (fun t => { t with pc := 0x0102#14, flags := ⟨false, true, true, false⟩ }) := by
  decide

/-- V19, R132: CPI keeps carry 1 (D9). -/
theorem test_v19_cpi_keeps_carry_1 : becomes
    { at_ 0x0100#14 [0x3C#8, 0x10#8] with regs := { State.reset.regs with a := 0x05#8 }, flags := { State.reset.flags with fc := true } }
    (fun t => { t with pc := 0x0102#14, flags := ⟨true, false, true, true⟩ }) := by
  decide

/-- V20, R132: CPI keeps carry 0 although A < imm. -/
theorem test_v20_cpi_keeps_carry_0_although_a_imm : becomes
    { at_ 0x0100#14 [0x3C#8, 0x10#8] with regs := { State.reset.regs with a := 0x05#8 }, flags := { State.reset.flags with fc := false } }
    (fun t => { t with pc := 0x0102#14, flags := ⟨true, false, true, false⟩ }) := by
  decide

/-- V21, R190: CMP B clears carry although A < B. -/
theorem test_v21_cmp_b_clears_carry_although_a_b : becomes
    { at_ 0x0100#14 [0xB9#8] with regs := { State.reset.regs with a := 0x05#8, b := 0x10#8 }, flags := { State.reset.flags with fc := true } }
    (fun t => { t with pc := 0x0101#14, flags := ⟨true, false, true, false⟩ }) := by
  decide

/-- V22, R191: CMP M, difference 0x7F. -/
theorem test_v22_cmp_m_difference_0x7f : becomes
    (State.memWrite { at_ 0x0100#14 [0xBF#8] with regs := { State.reset.regs with a := 0x80#8, h := 0x02#8, l := 0x00#8 }, flags := { State.reset.flags with fc := true } } 0x0200#14 0x01#8)
    (fun t => { t with pc := 0x0101#14, flags := ⟨false, false, false, false⟩ }) := by
  decide

/-- V23, R136: RLC. -/
theorem test_v23_rlc : becomes
    { at_ 0x0100#14 [0x02#8] with regs := { State.reset.regs with a := 0x80#8 }, flags := { State.reset.flags with fc := false } }
    (fun t => { t with regs := { t.regs with a := 0x01#8 }, pc := 0x0101#14, flags := ⟨false, false, false, true⟩ }) := by
  decide

/-- V24, R137: RRC, old carry ignored. -/
theorem test_v24_rrc_old_carry_ignored : becomes
    { at_ 0x0100#14 [0x0A#8] with regs := { State.reset.regs with a := 0x02#8 }, flags := { State.reset.flags with fc := true } }
    (fun t => { t with regs := { t.regs with a := 0x01#8 }, pc := 0x0101#14, flags := ⟨false, false, false, false⟩ }) := by
  decide

/-- V25, R138: RAL takes the carry in. -/
theorem test_v25_ral_takes_the_carry_in : becomes
    { at_ 0x0100#14 [0x12#8] with regs := { State.reset.regs with a := 0x40#8 }, flags := { State.reset.flags with fc := true } }
    (fun t => { t with regs := { t.regs with a := 0x81#8 }, pc := 0x0101#14, flags := ⟨true, false, true, false⟩ }) := by
  decide

/-- V26, R138: RAL of 0: flags rewritten from the new A. -/
theorem test_v26_ral_of_0_flags_rewritten_from_the : becomes
    { at_ 0x0100#14 [0x12#8] with regs := { State.reset.regs with a := 0x00#8 }, flags := { State.reset.flags with fc := false, fs := true } }
    (fun t => { t with pc := 0x0101#14, flags := ⟨false, true, true, false⟩ }) := by
  decide

/-- V27, R139: RAR takes the carry in. -/
theorem test_v27_rar_takes_the_carry_in : becomes
    { at_ 0x0100#14 [0x1A#8] with regs := { State.reset.regs with a := 0x02#8 }, flags := { State.reset.flags with fc := true } }
    (fun t => { t with regs := { t.regs with a := 0x81#8 }, pc := 0x0101#14, flags := ⟨true, false, true, false⟩ }) := by
  decide

/-- V28, R139: RAR evicts a 1. -/
theorem test_v28_rar_evicts_a_1 : becomes
    { at_ 0x0100#14 [0x1A#8] with regs := { State.reset.regs with a := 0x01#8 }, flags := { State.reset.flags with fc := false } }
    (fun t => { t with regs := { t.regs with a := 0x00#8 }, pc := 0x0101#14, flags := ⟨false, true, true, true⟩ }) := by
  decide

/-- V30, R140: 0x3A unknown at the last address; pc wraps. -/
theorem test_v30_0x3a_unknown_at_the_last_address : becomes
    { at_ 0x3FFF#14 [0x3A#8] with regs := { State.reset.regs with a := 0x81#8 } }
    (fun t => { t with pc := 0x0000#14, flags := ⟨false, false, false, false⟩, diag := [.unknownOpcode 0x3A#8 0x3FFF#14] }) := by
  decide

/-- V31, R133: MVI H; flags kept (D23). -/
theorem test_v31_mvi_h : becomes
    { at_ 0x0100#14 [0x2E#8, 0xFF#8] with flags := { State.reset.flags with fz := true } }
    (fun t => { t with regs := { t.regs with h := 0xFF#8 }, pc := 0x0102#14, flags := ⟨false, true, false, false⟩ }) := by
  decide

/-- V32, R134: MVI M: bits 7:6 of H ignored (D2). -/
theorem test_v32_mvi_m_bits_7_6_of_h : becomes
    { at_ 0x0100#14 [0x3E#8, 0x7F#8] with regs := { State.reset.regs with h := 0xD2#8, l := 0x34#8 } }
    (fun t => State.memWrite { t with pc := 0x0102#14, flags := ⟨false, false, false, false⟩ } 0x1234#14 0x7F#8) := by
  decide

/-- V35, R200: MOV L,A; flags kept. -/
theorem test_v35_mov_l_a : becomes
    { at_ 0x0100#14 [0xF0#8] with regs := { State.reset.regs with a := 0x9C#8 }, flags := { State.reset.flags with fs := true } }
    (fun t => { t with regs := { t.regs with l := 0x9C#8 }, pc := 0x0101#14, flags := ⟨true, false, false, false⟩ }) := by
  decide

/-- V36, R200: MOV B,B is a no-op. -/
theorem test_v36_mov_b_b_is_a_no_op : becomes
    { at_ 0x0100#14 [0xC9#8] with regs := { State.reset.regs with b := 0x11#8 } }
    (fun t => { t with pc := 0x0101#14, flags := ⟨false, false, false, false⟩ }) := by
  decide

/-- V37, R201: MOV H,M addresses with the old H (0x41 -> H[5:0]=0x01). -/
theorem test_v37_mov_h_m_addresses_with_the_old : becomes
    (State.memWrite { at_ 0x0100#14 [0xEF#8] with regs := { State.reset.regs with h := 0x41#8, l := 0x10#8 } } 0x0110#14 0x20#8)
    (fun t => { t with regs := { t.regs with h := 0x20#8 }, pc := 0x0101#14, flags := ⟨false, false, false, false⟩ }) := by
  decide

/-- V38, R201: MOV A,M at the top of memory. -/
theorem test_v38_mov_a_m_at_the_top_of : becomes
    (State.memWrite { at_ 0x0100#14 [0xC7#8] with regs := { State.reset.regs with h := 0xFF#8, l := 0xFF#8 } } 0x3FFF#14 0x99#8)
    (fun t => { t with regs := { t.regs with a := 0x99#8 }, pc := 0x0101#14, flags := ⟨false, false, false, false⟩ }) := by
  decide

/-- V39, R202: MOV M,L. -/
theorem test_v39_mov_m_l : becomes
    { at_ 0x0100#14 [0xFE#8] with regs := { State.reset.regs with h := 0x02#8, l := 0x03#8 } }
    (fun t => State.memWrite { t with pc := 0x0101#14, flags := ⟨false, false, false, false⟩ } 0x0203#14 0x03#8) := by
  decide

/-- V40, R202, R203: MOV M,A onto the next byte; two steps. -/
theorem test_v40_mov_m_a_onto_the_next_byte : becomes
    { at_ 0x0100#14 [0xF8#8, 0x00#8] with regs := { State.reset.regs with a := 0xFF#8, h := 0x01#8, l := 0x01#8 } }
    (fun t => State.memWrite { t with pc := 0x0101#14, flags := ⟨false, false, false, false⟩ } 0x0101#14 0xFF#8) := by
  decide

/-- V41, R203: HLT 0xFF; flags kept; pc advances (D10). -/
theorem test_v41_hlt_0xff : becomes
    { at_ 0x0100#14 [0xFF#8] with regs := { State.reset.regs with a := 0x01#8 }, flags := { State.reset.flags with fc := true } }
    (fun t => { t with pc := 0x0101#14, flags := ⟨false, false, false, true⟩, halted := true }) := by
  decide

/-- V42, R120: HLT 0x00 at the last address. -/
theorem test_v42_hlt_0x00_at_the_last_address : becomes
    (at_ 0x3FFF#14 [0x00#8])
    (fun t => { t with pc := 0x0000#14, flags := ⟨false, false, false, false⟩, halted := true }) := by
  decide

/-- V44, R176: ADD A doubles. -/
theorem test_v44_add_a_doubles : becomes
    { at_ 0x0100#14 [0x80#8] with regs := { State.reset.regs with a := 0x80#8 } }
    (fun t => { t with regs := { t.regs with a := 0x00#8 }, pc := 0x0101#14, flags := ⟨false, true, true, true⟩ }) := by
  decide

/-- V45, R177: ADD M. -/
theorem test_v45_add_m : becomes
    (State.memWrite { at_ 0x0100#14 [0x87#8] with regs := { State.reset.regs with a := 0x01#8, h := 0x3F#8, l := 0xFF#8 } } 0x3FFF#14 0xFF#8)
    (fun t => { t with regs := { t.regs with a := 0x00#8 }, pc := 0x0101#14, flags := ⟨false, true, true, true⟩ }) := by
  decide

/-- V46, R178: ADC L. -/
theorem test_v46_adc_l : becomes
    { at_ 0x0100#14 [0x8E#8] with regs := { State.reset.regs with a := 0x7F#8, l := 0x00#8 }, flags := { State.reset.flags with fc := true } }
    (fun t => { t with regs := { t.regs with a := 0x80#8 }, pc := 0x0101#14, flags := ⟨true, false, false, false⟩ }) := by
  decide

/-- V47, R179: ADC M, t = 511. -/
theorem test_v47_adc_m_t_511 : becomes
    (State.memWrite { at_ 0x0100#14 [0x8F#8] with regs := { State.reset.regs with a := 0xFF#8, l := 0x80#8 }, flags := { State.reset.flags with fc := true } } 0x0080#14 0xFF#8)
    (fun t => { t with pc := 0x0101#14, flags := ⟨true, false, true, true⟩ }) := by
  decide

/-- V48, R180: SUB A. -/
theorem test_v48_sub_a : becomes
    { at_ 0x0100#14 [0x90#8] with regs := { State.reset.regs with a := 0x37#8 }, flags := { State.reset.flags with fc := true } }
    (fun t => { t with regs := { t.regs with a := 0x00#8 }, pc := 0x0101#14, flags := ⟨false, true, true, false⟩ }) := by
  decide

/-- V49, R181: SUB M with borrow. -/
theorem test_v49_sub_m_with_borrow : becomes
    (State.memWrite { at_ 0x0100#14 [0x97#8] with regs := { State.reset.regs with a := 0x00#8, l := 0x80#8 } } 0x0080#14 0x01#8)
    (fun t => { t with regs := { t.regs with a := 0xFF#8 }, pc := 0x0101#14, flags := ⟨true, false, true, true⟩ }) := by
  decide

/-- V50, R182: SBB A with carry set (D8). -/
theorem test_v50_sbb_a_with_carry_set : becomes
    { at_ 0x0100#14 [0x98#8] with regs := { State.reset.regs with a := 0x37#8 }, flags := { State.reset.flags with fc := true } }
    (fun t => { t with regs := { t.regs with a := 0xFF#8 }, pc := 0x0101#14, flags := ⟨true, false, true, true⟩ }) := by
  decide

/-- V51, R183: SBB M, subtrahend 256 (D8). -/
theorem test_v51_sbb_m_subtrahend_256 : becomes
    (State.memWrite { at_ 0x0100#14 [0x9F#8] with regs := { State.reset.regs with a := 0x00#8, l := 0x80#8 }, flags := { State.reset.flags with fc := true } } 0x0080#14 0xFF#8)
    (fun t => { t with pc := 0x0101#14, flags := ⟨false, true, true, true⟩ }) := by
  decide

/-- V52, R184: ANA A tests the accumulator. -/
theorem test_v52_ana_a_tests_the_accumulator : becomes
    { at_ 0x0100#14 [0xA0#8] with regs := { State.reset.regs with a := 0x00#8 }, flags := { State.reset.flags with fc := true } }
    (fun t => { t with pc := 0x0101#14, flags := ⟨false, true, true, false⟩ }) := by
  decide

/-- V53, R185: ANA M. -/
theorem test_v53_ana_m : becomes
    (State.memWrite { at_ 0x0100#14 [0xA7#8] with regs := { State.reset.regs with a := 0xFF#8, l := 0x80#8 }, flags := { State.reset.flags with fc := true } } 0x0080#14 0x81#8)
    (fun t => { t with regs := { t.regs with a := 0x81#8 }, pc := 0x0101#14, flags := ⟨true, false, true, false⟩ }) := by
  decide

/-- V54, R186: XRA A clears. -/
theorem test_v54_xra_a_clears : becomes
    { at_ 0x0100#14 [0xA8#8] with regs := { State.reset.regs with a := 0xC3#8 }, flags := { State.reset.flags with fc := true, fs := true } }
    (fun t => { t with regs := { t.regs with a := 0x00#8 }, pc := 0x0101#14, flags := ⟨false, true, true, false⟩ }) := by
  decide

/-- V55, R187: XRA M. -/
theorem test_v55_xra_m : becomes
    (State.memWrite { at_ 0x0100#14 [0xAF#8] with regs := { State.reset.regs with a := 0xFF#8, l := 0x80#8 } } 0x0080#14 0x7F#8)
    (fun t => { t with regs := { t.regs with a := 0x80#8 }, pc := 0x0101#14, flags := ⟨true, false, false, false⟩ }) := by
  decide

/-- V56, R188: ORA E. -/
theorem test_v56_ora_e : becomes
    { at_ 0x0100#14 [0xB4#8] with regs := { State.reset.regs with a := 0x0F#8, e := 0xF0#8 }, flags := { State.reset.flags with fc := true } }
    (fun t => { t with regs := { t.regs with a := 0xFF#8 }, pc := 0x0101#14, flags := ⟨true, false, true, false⟩ }) := by
  decide

/-- V57, R189: ORA M. -/
theorem test_v57_ora_m : becomes
    (State.memWrite { at_ 0x0100#14 [0xB7#8] with regs := { State.reset.regs with a := 0x01#8, l := 0x80#8 } } 0x0080#14 0x02#8)
    (fun t => { t with regs := { t.regs with a := 0x03#8 }, pc := 0x0101#14, flags := ⟨false, false, true, false⟩ }) := by
  decide

/-- V58, R160: JMP (alias byte 0x7C); hi[7:6] ignored. -/
theorem test_v58_jmp : becomes
    (at_ 0x0100#14 [0x7C#8, 0x34#8, 0xD2#8])
    (fun t => { t with pc := 0x1234#14, flags := ⟨false, false, false, false⟩ }) := by
  decide

/-- V60, R161: JTC not taken. -/
theorem test_v60_jtc_not_taken : becomes
    { at_ 0x0100#14 [0x60#8, 0x00#8, 0x02#8] with flags := { State.reset.flags with fc := false } }
    (fun t => { t with pc := 0x0103#14, flags := ⟨false, false, false, false⟩ }) := by
  decide

/-- V61, R161: JTC taken. -/
theorem test_v61_jtc_taken : becomes
    { at_ 0x0100#14 [0x60#8, 0x00#8, 0x02#8] with flags := { State.reset.flags with fc := true } }
    (fun t => { t with pc := 0x0200#14, flags := ⟨false, false, false, true⟩ }) := by
  decide

/-- V62, R161: JFS taken. -/
theorem test_v62_jfs_taken : becomes
    { at_ 0x0100#14 [0x50#8, 0x00#8, 0x02#8] with flags := { State.reset.flags with fs := false } }
    (fun t => { t with pc := 0x0200#14, flags := ⟨false, false, false, false⟩ }) := by
  decide

/-- V63, R161: JTP not taken. -/
theorem test_v63_jtp_not_taken : becomes
    { at_ 0x0100#14 [0x78#8, 0x00#8, 0x02#8] with flags := { State.reset.flags with fp := false } }
    (fun t => { t with pc := 0x0103#14, flags := ⟨false, false, false, false⟩ }) := by
  decide

/-- V65, R162: CALL (alias 0x4E) at 0x3FFD pushes 0x0000. -/
theorem test_v65_call : becomes
    (at_ 0x3FFD#14 [0x4E#8, 0x00#8, 0x02#8])
    (fun t => { t with pc := 0x0200#14, sp := 1 }) := by
  decide

/-- V66, R162: CALL with the stack full: push discarded, jump made (D13). -/
theorem test_v66_call_with_the_stack_full_push_discarded : becomes
    { at_ 0x0100#14 [0x46#8, 0x00#8, 0x02#8] with stk := #v[0x1#14, 0x2#14, 0x3#14, 0x4#14, 0x5#14, 0x6#14, 0x7#14, 0x8#14], sp := 8 }
    (fun t => { t with pc := 0x0200#14, diag := [.stackOverflow] }) := by
  decide

/-- V67, R163: CTZ not taken on a full stack: no report. -/
theorem test_v67_ctz_not_taken_on_a_full_stack : becomes
    { at_ 0x0100#14 [0x6A#8, 0x00#8, 0x02#8] with flags := { State.reset.flags with fz := false }, sp := 8 }
    (fun t => { t with pc := 0x0103#14 }) := by
  decide

/-- V68, R163: CFZ taken. -/
theorem test_v68_cfz_taken : becomes
    { at_ 0x0100#14 [0x4A#8, 0x00#8, 0x02#8] with flags := { State.reset.flags with fz := false }, stk := #v[0x11#14, 0x22#14, 0x0#14, 0x0#14, 0x0#14, 0x0#14, 0x0#14, 0x0#14], sp := 2 }
    (fun t => { t with pc := 0x0200#14, sp := 3, stk := t.stk.set 2 0x0103#14 }) := by
  decide

/-- V69, R150: RET (alias 0x3F). -/
theorem test_v69_ret : becomes
    { at_ 0x0100#14 [0x3F#8] with stk := #v[0x11#14, 0x22#14, 0x0#14, 0x0#14, 0x0#14, 0x0#14, 0x0#14, 0x0#14], sp := 2 }
    (fun t => { t with pc := 0x0022#14, sp := 1 }) := by
  decide

/-- V70, R150: RET on an empty stack. -/
theorem test_v70_ret_on_an_empty_stack : becomes
    (at_ 0x0100#14 [0x07#8])
    (fun t => { t with pc := 0x0101#14, diag := [.stackUnderflow] }) := by
  decide

/-- V71, R151: RTS not taken on an empty stack: no report. -/
theorem test_v71_rts_not_taken_on_an_empty_stack : becomes
    { at_ 0x0100#14 [0x33#8] with flags := { State.reset.flags with fs := false } }
    (fun t => { t with pc := 0x0101#14 }) := by
  decide

/-- V72, R151: RFP taken on an empty stack. -/
theorem test_v72_rfp_taken_on_an_empty_stack : becomes
    { at_ 0x0100#14 [0x1B#8] with flags := { State.reset.flags with fp := false } }
    (fun t => { t with pc := 0x0101#14, diag := [.stackUnderflow] }) := by
  decide

/-- V73, R151: RTC taken. -/
theorem test_v73_rtc_taken : becomes
    { at_ 0x0100#14 [0x23#8] with flags := { State.reset.flags with fc := true }, stk := #v[0x3FFF#14, 0x0#14, 0x0#14, 0x0#14, 0x0#14, 0x0#14, 0x0#14, 0x0#14], sp := 1 }
    (fun t => { t with pc := 0x3FFF#14, flags := ⟨false, false, false, true⟩, sp := 0 }) := by
  decide

/-- V74, R152: RST 7. -/
theorem test_v74_rst_7 : becomes
    (at_ 0x0100#14 [0x3D#8])
    (fun t => { t with pc := 0x0038#14, sp := 1, stk := t.stk.set 0 0x0101#14 }) := by
  decide

/-- V75, R152: RST 0 at 0x3FFF pushes 0x0000; no reset. -/
theorem test_v75_rst_0_at_0x3fff_pushes_0x0000 : becomes
    { at_ 0x3FFF#14 [0x05#8] with regs := { State.reset.regs with a := 0x09#8 } }
    (fun t => { t with pc := 0x0000#14, sp := 1 }) := by
  decide

/-- V76, R152: RST 1 with the stack full (D13). -/
theorem test_v76_rst_1_with_the_stack_full : becomes
    { at_ 0x0100#14 [0x0D#8] with sp := 8 }
    (fun t => { t with pc := 0x0008#14, diag := [.stackOverflow] }) := by
  decide

/-- V77, R168: IOP 0x41 is one byte (D19); the 0x55 after it is the next opcode. -/
theorem test_v77_iop_0x41_is_one_byte : becomes
    { at_ 0x0100#14 [0x41#8, 0x55#8] with regs := { State.reset.regs with a := 0x77#8 } }
    (fun t => { t with pc := 0x0101#14, flags := ⟨false, false, false, false⟩ }) := by
  decide

/-- V78, R168: IOP 0x7F. -/
theorem test_v78_iop_0x7f : becomes
    { at_ 0x0100#14 [0x7F#8] with regs := { State.reset.regs with a := 0x77#8 }, flags := { State.reset.flags with fc := true } }
    (fun t => { t with pc := 0x0101#14, flags := ⟨false, false, false, true⟩ }) := by
  decide

/-- V59, R160 (R56): JMP over the top of memory, low byte from 0x3FFF, high byte from 0x0000. -/
theorem test_v59_jump_over_the_top : becomes (at_ 0x3FFE#14 [0x44#8, 0x00#8, 0x02#8])
    (fun t => { t with pc := 0x0200#14 }) := by
  decide

/-- S6, first step: the bytes `06 05 04 03` at 0, MVI A,0x05. -/
theorem test_s6_load_immediate : becomes (at_ 0#14 [0x06#8, 0x05#8, 0x04#8, 0x03#8])
    (fun t => { t with regs := { t.regs with a := 0x05#8 }, pc := 2#14 }) := by
  decide

/-- V81: over memory with 0xC0 at 0, the first step after construction is MOV A,A and leaves the latch clear. -/
theorem test_v81_first_step_clears_the_latch : becomes (at_ 0#14 [0xC0#8]) (fun t => { t with pc := 1#14 }) := by
  decide

/-- S2: sign, zero and parity of the nine results listed. -/
theorem test_s2_set_szp : [0x00#8, 0x01#8, 0x03#8, 0x08#8, 0x7F#8, 0x80#8, 0x81#8, 0xFE#8, 0xFF#8].map
      (fun v => ((setSZP v State.reset.flags).fs, (setSZP v State.reset.flags).fz, (setSZP v State.reset.flags).fp)) =
    [(false, true, true), (false, false, false), (false, false, true), (false, false, false), (false, false, false),
     (true, false, false), (true, false, true), (true, false, false), (true, false, true)] := by
  decide

/-- S1: writing a byte at an address and reading the address gives the byte. -/
theorem test_s1_write_then_read : (State.reset.memWrite 0x1234#14 0x7F#8).memRead 0x1234#14 = 0x7F#8 := by decide

/-- V83: the driver sets sp to 3, and a pop returns the exposed slot with the reset value. -/
theorem test_v83_driver_sets_sp : (Driver.apply (.setSp 3) State.reset).map (fun s => (s.pop.1, s.pop.2.sp)) =
    some (0#14, 2) := by decide

/-! ## Witnesses: the hypotheses of each statement of Obligations.lean are met, each clause at a boundary value -/

/-- A register file with seven different values; H and L point at 0x0110. -/
def regs7 : Regs := { a := 0x0A#8, b := 0x0B#8, c := 0x0C#8, d := 0x0D#8, e := 0xFF#8, h := 0x01#8, l := 0x10#8 }

/-- A full stack of eight different addresses. -/
def stk8 : Vector Addr 8 := #v[1#14, 2#14, 3#14, 4#14, 5#14, 6#14, 7#14, 8#14]

/-- A state with the bytes at `pc`, `regs7`, `stk8` and the stack pointer `sp`. -/
def busy (pc : Addr) (sp : Fin 9) (bytes : List Byte) : State :=
  { at_ pc bytes with regs := regs7, stk := stk8, sp := sp }

/-- The meaning of `i` at `s` answers a next state that `p` accepts. -/
def answers (i : Instr) (s : State) (p : State → Bool) : Bool :=
  match exec i s with
  | .next t => p t
  | .fault _ => false
  | .refused _ => false

/-- The step from `s` answers a next state that `p` accepts. -/
def stepAnswers (s : State) (p : State → Bool) : Bool :=
  match step s with
  | .next t => p t
  | .fault _ => false
  | .refused _ => false

/-- StepKeepsMemoryCanonical: MVI M,0x00 over a listed byte, which leaves the list one cell shorter. -/
theorem test_witness_step_keeps_memory_canonical :
    ((busy 0x3FFE#14 0 [0x3E#8, 0x00#8]).memWrite 0x0110#14 0x77#8).mem.wf = true ∧
      stepAnswers ((busy 0x3FFE#14 0 [0x3E#8, 0x00#8]).memWrite 0x0110#14 0x77#8)
        (fun t => decide (t.mem = [(0x3FFE, 0x3E#8)])) = true := by decide

/-- CanonicalMemoryIsDeterminedByItsBytes: cells at both ends of the space. -/
theorem test_witness_canonical_memory : Memory.wf [(0, 0x01#8), (16383, 0xFF#8)] = true ∧
    ∀ a : Addr, Memory.read [(0, 0x01#8), (16383, 0xFF#8)] a = Memory.read [(0, 0x01#8), (16383, 0xFF#8)] a :=
  ⟨by decide, fun _ => rfl⟩

/-- MemoryWriteChangesOneByte: an address and another one, both ends of the space. -/
theorem test_witness_memory_write : (0x0000#14 : Addr) ≠ 0x3FFF#14 ∧
    ((State.reset.memWrite 0x0000#14 0x01#8).memWrite 0x3FFF#14 0x02#8).memRead 0x0000#14 = 0x01#8 := by decide

/-- UnmaskedIndexFaults: the first index outside the array, and the last one inside. -/
theorem test_witness_unmasked_index : 16384 ≤ 16384 ∧
    Memory.readIndex [] 16384 = .error .outOfRangeMemoryAccess ∧
    Memory.readIndex [(16383, 0x05#8)] (16383#14 : Addr).toNat = .ok 0x05#8 := by decide

/-- RegisterCellsAreIndependent: the code of M and the last code of a cell; two different cells. -/
theorem test_witness_register_cells : operandOfCode 0b111#3 = .m ∧ (0b110#3 : BitVec 3) ≠ 0b111#3 ∧
    operandOfCode 0b110#3 = .reg .l ∧ Reg.h ≠ Reg.l ∧ ((busy 0#14 0 []).setReg .l 0x55#8).reg .h = 0x01#8 := by decide

/-- OperandIsACellOrTheByteAtM: the last code of a cell; the code of M, with two states that differ in the other cells. -/
theorem test_witness_operand : (0b110#3 : BitVec 3) ≠ 0b111#3 ∧ (busy 0x0110#14 0 [0x99#8]).readSrc (operandOfCode 0b110#3) = 0x10#8 ∧
    State.reg { busy 0x0110#14 0 [0x99#8] with regs := { State.reset.regs with h := 0x01#8, l := 0x10#8 } } .h = 0x01#8 ∧
    (busy 0x0110#14 0 [0x99#8]).readSrc (operandOfCode 0b111#3) = 0x99#8 := by decide

/-- FetchReadsAtPcAndAdvances: pc at the top of memory. -/
theorem test_witness_fetch : (at_ 16383#14 [0x11#8, 0x22#8]).pc = 16383#14 ∧
    (at_ 16383#14 [0x11#8, 0x22#8]).fetch16.1 = 0x2211#16 ∧ (at_ 16383#14 [0x11#8, 0x22#8]).fetch8.2.pc = 0#14 := by decide

/-- PushStoresOrReportsOverflow: sp = 7, the last push with room, and sp = 8. -/
theorem test_witness_push : (busy 0#14 7 []).sp.val < 8 ∧ ((busy 0#14 7 []).push 0x99#14).stk[7] = 0x99#14 ∧
    (busy 0#14 8 []).sp.val = 8 ∧ ((busy 0#14 8 []).push 0x99#14).stk = stk8 := by decide

/-- PopReturnsNewestOrReportsUnderflow: sp = 1, sp = 8 and sp = 0. -/
theorem test_witness_pop : 0 < (busy 0#14 1 []).sp.val ∧ (busy 0#14 1 []).pop.1 = 1#14 ∧
    0 < (busy 0#14 8 []).sp.val ∧ (busy 0#14 8 []).pop.1 = 8#14 ∧
    (busy 0x0123#14 0 []).sp.val = 0 ∧ (busy 0x0123#14 0 []).pop.1 = 0x0123#14 := by decide

/-- EightPushesFillTheStack. -/
theorem test_witness_eight_pushes : (busy 0#14 0 []).sp.val = 0 ∧
    [11#14, 12#14, 13#14, 14#14, 15#14, 16#14, 17#14, 18#14].length = 8 ∧
    ([11#14, 12#14, 13#14, 14#14, 15#14, 16#14, 17#14, 18#14].foldl State.push (busy 0#14 0 [])).stk[7] = 18#14 := by decide

/-- PopUndoesPush: sp = 0 and sp = 7, with a slot other than the one written. -/
theorem test_witness_pop_undoes_push : (busy 0#14 0 []).sp.val < 8 ∧ (busy 0#14 7 []).sp.val < 8 ∧
    ((6 : Fin 8) : Nat) ≠ (busy 0#14 7 []).sp.val ∧ ((busy 0#14 7 []).push 0x99#14).pop.1 = 0x99#14 ∧
    ((busy 0#14 7 []).push 0x99#14).pop.2.stk[6] = 7#14 := by decide

/-- IncrementResult, second clause: E holds 0xFF. -/
theorem test_witness_increment : (busy 0#14 0 []).reg CountReg.e.toReg = 0xFF#8 ∧
    answers (inrInstr .e) (busy 0#14 0 []) (fun t => t.regs.e == 0x00#8 && t.flags.fz) = true := by decide

/-- DecrementResult, second clause: B holds 0x00. -/
theorem test_witness_decrement : State.reset.reg CountReg.b.toReg = 0x00#8 ∧
    answers (dcrInstr .b) State.reset (fun t => t.regs.b == 0xFF#8 && t.flags.fs) = true := by decide

/-- ReturnResult: sp = 1, sp = 8 and sp = 0. -/
theorem test_witness_return : 0 < (busy 0#14 1 []).sp.val ∧ 0 < (busy 0#14 8 []).sp.val ∧ (busy 0#14 0 []).sp.val = 0 ∧
    answers (.ret 0#3) (busy 0#14 1 []) (fun t => t.pc == 1#14) = true ∧
    answers (.ret 0#3) (busy 0#14 8 []) (fun t => t.pc == 8#14) = true ∧
    answers (.ret 0#3) (busy 0x0101#14 0 []) (fun t => t.pc == 0x0101#14 && decide (t.diag = [.stackUnderflow])) = true := by
  decide

/-- ConditionalReturnResult: with all flags false, RFC's condition holds and RTP's does not. -/
theorem test_witness_conditional_return : flagValue .carry (busy 0#14 8 []).flags = false ∧
    flagValue .parity (busy 0#14 8 []).flags ≠ true ∧
    answers (retIfInstr ⟨.carry, false⟩) (busy 0#14 8 []) (fun t => t.pc == 8#14) = true ∧
    answers (retIfInstr ⟨.parity, true⟩) (busy 0#14 8 []) (fun t => t.pc == 0#14) = true := by decide

/-- RestartResult: sp = 7 and sp = 8. -/
theorem test_witness_restart : (busy 0#14 7 []).sp.val < 8 ∧ (busy 0#14 8 []).sp.val = 8 ∧
    answers (rstInstr 0b111#3) (busy 0x0101#14 7 []) (fun t => t.pc == 0x38#14 && t.stk[7] == 0x0101#14) = true ∧
    answers (rstInstr 0b111#3) (busy 0x0101#14 8 []) (fun t => t.pc == 0x38#14 && decide (t.stk = stk8)) = true := by decide

/-- ConditionalJumpResult: JFZ taken, JTS not taken, with all flags false. -/
theorem test_witness_conditional_jump : flagValue .zero (busy 0#14 0 []).flags = false ∧
    flagValue .sign (busy 0#14 0 []).flags ≠ true ∧
    answers (jumpIfInstr ⟨.zero, false⟩ 0xFFFF#16) (busy 0#14 0 []) (fun t => t.pc == 0x3FFF#14) = true ∧
    answers (jumpIfInstr ⟨.sign, true⟩ 0xFFFF#16) (busy 0#14 0 []) (fun t => t.pc == 0#14) = true := by decide

/-- CallResult: sp = 7 and sp = 8. -/
theorem test_witness_call : (busy 0#14 7 []).sp.val < 8 ∧ (busy 0#14 8 []).sp.val = 8 ∧
    answers (.call 0#3 0x4000#16) (busy 0x0103#14 7 []) (fun t => t.pc == 0#14 && t.stk[7] == 0x0103#14) = true ∧
    answers (.call 0#3 0x4000#16) (busy 0x0103#14 8 []) (fun t => t.pc == 0#14 && decide (t.stk = stk8)) = true := by decide

/-- ConditionalCallResult: CFP taken, CTC not taken on a full stack. -/
theorem test_witness_conditional_call : flagValue .parity (busy 0#14 0 []).flags = false ∧
    flagValue .carry (busy 0#14 8 []).flags ≠ true ∧
    answers (callIfInstr ⟨.parity, false⟩ 0x0200#16) (busy 0#14 7 []) (fun t => t.pc == 0x0200#14 && t.sp == 8) = true ∧
    answers (callIfInstr ⟨.carry, true⟩ 0x0200#16) (busy 0#14 8 []) (fun t => t.pc == 0#14 && decide (t.diag = [])) = true := by
  decide

/-- UnknownOpcodeOnlyReports: both sides of the equivalence, the first and the last of the six bytes. -/
theorem test_witness_unknown_opcode : decode [0x22#8, 0x01#8] = .ok (.unk 0x22#8, [0x01#8]) ∧
    decode [0x3A#8] = .ok (.unk 0x3A#8, []) ∧ 0x3A#8 ∈ [0x22#8, 0x2A#8, 0x32#8, 0x38#8, 0x39#8, 0x3A#8] := by decide

/-- ReturnComesBackAfterTheCall: a call, a restart and a taken conditional call at sp = 7. -/
theorem test_witness_return_comes_back : (busy 0#14 7 []).sp.val < 8 ∧
    answers (.call 0#3 0x0200#16) (busy 0x0103#14 7 [])
      (fun t => answers (.ret 0#3) t (fun u => u.pc == 0x0103#14 && u.sp == 7)) = true ∧
    answers (rstInstr 0b001#3) (busy 0x0103#14 7 [])
      (fun t => answers (.ret 0#3) t (fun u => u.pc == 0x0103#14 && u.sp == 7)) = true ∧
    flagValue .zero (busy 0#14 7 []).flags = false ∧ answers (callIfInstr ⟨.zero, false⟩ 0x0200#16) (busy 0x0103#14 7 [])
      (fun t => answers (.ret 0#3) t (fun u => u.pc == 0x0103#14 && u.sp == 7)) = true := by decide

/-- ArithmeticFrame: an increment, an immediate and a register operation, a rotate; both compares; INR and CPI. -/
theorem test_witness_arithmetic_frame :
    answers (inrInstr .l) (busy 0#14 0 []) (fun t => t.regs.l == 0x11#8 && t.regs.h == 0x01#8) = true ∧
    answers (aluImmInstr .add 0x01#8) (busy 0#14 0 []) (fun t => t.regs.a == 0x0B#8 && t.regs.b == 0x0B#8) = true ∧
    answers (aluInstr .sub .m) (busy 0#14 0 []) (fun t => t.regs.a == 0x0A#8 && t.regs.b == 0x0B#8) = true ∧
    answers (rotateInstr .rrc) (busy 0#14 0 []) (fun t => t.regs.a == 0x05#8 && t.regs.b == 0x0B#8) = true ∧
    answers (.cpi 0x0B#8) (busy 0#14 0 []) (fun t => decide (t.regs = regs7) && !t.flags.fc) = true ∧
    answers (aluInstr .cmp (.reg .b)) (busy 0#14 0 []) (fun t => decide (t.regs = regs7)) = true ∧
    answers (dcrInstr .b) { busy 0#14 0 [] with flags := ⟨false, false, false, true⟩ } (fun t => t.flags.fc) = true := by
  decide

/-- LoadFrame: the three kinds of load, each with a cell that is not its destination. -/
theorem test_witness_load_frame : (Reg.l ≠ Reg.h) ∧
    answers (mviInstr (.reg .h) 0x77#8) (busy 0#14 0 []) (fun t => t.regs.h == 0x77#8 && t.regs.l == 0x10#8) = true ∧
    answers (movInstr .h .e) (busy 0#14 0 []) (fun t => t.regs.h == 0xFF#8 && t.regs.l == 0x10#8) = true ∧
    answers (movFromMInstr .h) (busy 0x0110#14 0 [0x20#8]) (fun t => t.regs.h == 0x20#8 && t.regs.l == 0x10#8) = true := by
  decide

/-- StoreFrame: both storing forms, with an address that is not stored to. -/
theorem test_witness_store_frame : (busy 0#14 0 []).maddr = 0x0110#14 ∧ (0x0111#14 : Addr) ≠ (busy 0#14 0 []).maddr ∧
    answers (.mviM 0x77#8) (busy 0x0111#14 0 [0x66#8])
      (fun t => t.memRead 0x0110#14 == 0x77#8 && t.memRead 0x0111#14 == 0x66#8) = true ∧
    answers (movToMInstr .l) (busy 0x0111#14 0 [0x66#8])
      (fun t => t.memRead 0x0110#14 == 0x10#8 && t.memRead 0x0111#14 == 0x66#8) = true := by decide

/-- TransferFrame: a jump, a taken conditional jump, a return, a taken conditional return, a call, a taken conditional
call, a restart, each with the slot 0 not the one at sp. -/
theorem test_witness_transfer_frame : ((0 : Fin 8) : Nat) ≠ (busy 0#14 2 []).sp.val ∧
    answers (.jmp 0#3 0x0200#16) (busy 0#14 2 []) (fun t => t.pc == 0x0200#14) = true ∧
    answers (jumpIfInstr ⟨.zero, false⟩ 0x0200#16) (busy 0#14 2 []) (fun t => t.pc == 0x0200#14) = true ∧
    answers (.ret 0#3) (busy 0#14 2 []) (fun t => t.pc == 2#14 && decide (t.stk = stk8)) = true ∧
    answers (retIfInstr ⟨.sign, false⟩) (busy 0#14 2 []) (fun t => t.pc == 2#14 && decide (t.stk = stk8)) = true ∧
    answers (.call 0#3 0x0200#16) (busy 0x0103#14 2 []) (fun t => t.stk[2] == 0x0103#14 && t.stk[0] == 1#14) = true ∧
    answers (callIfInstr ⟨.sign, false⟩ 0x0200#16) (busy 0x0103#14 2 [])
      (fun t => t.stk[2] == 0x0103#14 && t.stk[0] == 1#14) = true ∧
    answers (rstInstr 0b010#3) (busy 0x0103#14 2 []) (fun t => t.stk[2] == 0x0103#14 && t.stk[0] == 1#14) = true := by decide

/-- OnlyAluInstructionsChangeFlags: a change of a flag, and a change of carry. -/
theorem test_witness_flags_change :
    answers (inrInstr .e) (busy 0#14 0 []) (fun t => decide (t.flags ≠ (busy 0#14 0 []).flags)) = true ∧
    answers (aluImmInstr .add 0xFF#8) (busy 0#14 0 []) (fun t => t.flags.fc != (busy 0#14 0 []).flags.fc) = true := by decide

/-- RegisterChangesNameTheRegister: a register changes. -/
theorem test_witness_register_change :
    answers (movInstr .a .e) (busy 0#14 0 []) (fun t => t.reg .a != (busy 0#14 0 []).reg .a) = true ∧
    answers (rotateInstr .rlc) (busy 0#14 0 []) (fun t => t.reg .a != (busy 0#14 0 []).reg .a) = true := by decide

/-- OnlyCallsAndReturnsUseTheStack: a slot changes, the pointer changes, an overflow, an underflow. -/
theorem test_witness_stack_use :
    answers (.call 0#3 0#16) (busy 0x0103#14 2 []) (fun t => decide (t.stk ≠ stk8)) = true ∧
    answers (.ret 0#3) (busy 0#14 2 []) (fun t => t.sp != 2) = true ∧
    answers (rstInstr 0#3) (busy 0#14 8 []) (fun t => decide (t.diag = (busy 0#14 8 []).diag ++ [.stackOverflow])) = true ∧
    answers (.ret 0#3) (busy 0#14 0 []) (fun t => decide (t.diag = (busy 0#14 0 []).diag ++ [.stackUnderflow])) = true := by
  decide

/-- OnlyStoresChangeMemory: the opcode 0x3E and both ends of the range 0xF8 to 0xFE. -/
theorem test_witness_store_step :
    stepAnswers (busy 0#14 0 [0x3E#8, 0x77#8]) (fun t => t.memRead 0x0110#14 != 0x00#8) = true ∧
    stepAnswers (busy 0#14 0 [0xF8#8]) (fun t => t.memRead 0x0110#14 != 0x00#8) = true ∧
    stepAnswers (busy 0#14 0 [0xFE#8]) (fun t => t.memRead 0x0110#14 != 0x00#8) = true := by decide

/-- HaltedTellsTheLastStepHalted: a step that halts, one that does not, and a request that is accepted. -/
theorem test_witness_halted : stepAnswers (busy 0#14 0 [0x01#8]) (fun t => t.halted) = true ∧
    stepAnswers (busy 0#14 0 [0x02#8]) (fun t => !t.halted) = true ∧
    (Driver.apply (.setPc 16383) State.reset).isSome = true := by decide

/-- StepEmitsExactlyThisDiagnostic: an unknown byte, and a byte that is not one, full stack, empty stack and neither. -/
theorem test_witness_diagnostics :
    stepAnswers (busy 0x3FFF#14 0 [0x22#8]) (fun t => decide (t.diag = [.unknownOpcode 0x22#8 0x3FFF#14])) = true ∧
    stepAnswers (busy 0#14 8 [0x42#8]) (fun t => decide (t.diag = [.stackOverflow])) = true ∧
    stepAnswers (busy 0#14 7 [0x42#8]) (fun t => decide (t.diag = [])) = true ∧
    stepAnswers (busy 0#14 0 [0x03#8]) (fun t => decide (t.diag = [.stackUnderflow])) = true ∧
    stepAnswers (busy 0#14 1 [0x03#8]) (fun t => decide (t.diag = [])) = true := by decide

/-- ProgramCounterAfterStep: the four clauses, at the top of memory; restart, return with sp = 8 and sp = 0. -/
theorem test_witness_program_counter :
    stepAnswers (busy 0x3FFF#14 0 [0x81#8]) (fun t => t.pc == 0#14) = true ∧
    stepAnswers (busy 0x3FFF#14 0 [0x04#8, 0x01#8]) (fun t => t.pc == 1#14) = true ∧
    stepAnswers (busy 0x3FFF#14 0 [0x48#8, 0xFF#8, 0xFF#8]) (fun t => t.pc == 0x3FFF#14) = true ∧
    stepAnswers (busy 0x3FFF#14 0 [0x68#8, 0xFF#8, 0xFF#8]) (fun t => t.pc == 2#14) = true ∧
    stepAnswers (busy 0x3FFF#14 0 [0x3D#8]) (fun t => t.pc == 0x38#14) = true ∧
    stepAnswers (busy 0x3FFF#14 8 [0x07#8]) (fun t => t.pc == 8#14) = true ∧
    stepAnswers (busy 0x3FFF#14 0 [0x07#8]) (fun t => t.pc == 0#14) = true ∧
    stepAnswers (busy 0x3FFF#14 0 [0x02#8]) (fun t => t.pc == 0#14) = true := by decide

/-- DecodeUndoesEncode and EncodeUndoesDecode: the hypotheses at a 1-, a 2- and a 3-byte instruction. -/
theorem test_witness_round_trip : (Instr.hlt 0xFF#8).wf = true ∧ (Instr.cpi 0xFF#8).wf = true ∧
    (Instr.jmp 0b111#3 0xFFFF#16).wf = true ∧ decode [0x7C#8, 0xFF#8, 0xFF#8, 0x00#8] = .ok (.jmp 0b111#3 0xFFFF#16, [0x00#8]) ∧
    encode (.jmp 0b111#3 0xFFFF#16) = [0x7C#8, 0xFF#8, 0xFF#8] := by decide

/-- LengthIsAFunctionOfTheOpcode: one opcode of each length. -/
theorem test_witness_length : decode [0x80#8] = .ok (.addA, []) ∧ decode [0x3E#8, 0x01#8] = .ok (.mviM 0x01#8, []) ∧
    decode [0x46#8, 0x01#8, 0x02#8] = .ok (.call 0b000#3 0x0201#16, []) := by decide

/-- StepRunsTheDecodedInstruction: three bytes over the top of memory. -/
theorem test_witness_step_runs : decode [(at_ 0x3FFE#14 [0x46#8, 0x01#8, 0x02#8]).memRead 0x3FFE#14,
      (at_ 0x3FFE#14 [0x46#8, 0x01#8, 0x02#8]).memRead (0x3FFE#14 + 1#14),
      (at_ 0x3FFE#14 [0x46#8, 0x01#8, 0x02#8]).memRead (0x3FFE#14 + 2#14)] = .ok (.call 0b000#3 0x0201#16, []) := by decide

/-- PlacedWordIsFetchedNext: a table word, placed at the top of memory. -/
theorem test_witness_placed_word : decodeTableWord 24 0x020146 = some (.call 0b000#3 0x0201#16) ∧
    (fetchInstr (((at_ 0x3FFE#14 []).withFetchWord 24 0x020146).beginStep)).1 = .call 0b000#3 0x0201#16 := by decide

/-- DriverWritesExactlyWhatItNames: the last legal and the first illegal value of each request. -/
theorem test_witness_driver : (Driver.apply (.setPc 16383) State.reset).isSome = true ∧
    Driver.apply (.setPc 16384) State.reset = none ∧ (Driver.apply (.setReg .l 255) State.reset).isSome = true ∧
    Driver.apply (.setReg .l 256) State.reset = none ∧
    (Driver.apply (.setFlag .parity 1) State.reset).map State.flags = some ⟨false, false, true, false⟩ ∧
    (Driver.apply (.setFlag .carry 0) State.reset).map State.flags = some ⟨false, false, false, false⟩ ∧
    FlagName.sign ≠ FlagName.parity ∧ Driver.apply (.setFlag .carry 2) State.reset = none ∧
    (Driver.apply (.setSp 8) State.reset).map State.sp = some 8 ∧ Driver.apply (.setSp 9) State.reset = none ∧
    (Driver.apply (.writeMem 16383 255) State.reset).isSome = true ∧
    Driver.apply (.writeMem 16384 0) State.reset = none ∧ Driver.apply (.writeMem 0 256) State.reset = none := by decide

/-- LoadedImageIsDumpedBack: an image of the whole capacity, its last byte, and one byte less. -/
theorem test_witness_image : (List.replicate 16384 0x77#8).length = 16384 ∧ 16383 < 16384 ∧
    (List.replicate 16383 0x77#8).length ≠ 16384 ∧
    Driver.loadImage [] State.reset = none :=
  ⟨List.length_replicate, by decide, by rw [List.length_replicate]; decide, by decide⟩

end Sys2Proof.Tests
end

section
/-! PROOFS. 10_state.md: register cells, operands by their 3-bit code, and the call stack. -/

namespace Sys2Proof.Proofs

open Sys2Proof.Machine

/-! ## Register codes (10_state.md R22, R24) -/

@[simp] theorem operandOfCode_code (o : Operand) : operandOfCode o.code = o := by
  cases o with
  | reg r => cases r <;> rfl
  | m => rfl

@[simp] theorem code_operandOfCode (c : BitVec 3) : (operandOfCode c).code = c := by
  revert c; decide

/-- `operandOfCode` and `Operand.code` are inverse to each other. -/
theorem operandOfCode_eq_iff {c : BitVec 3} {o : Operand} : operandOfCode c = o ↔ o.code = c :=
  ⟨fun h => h ▸ code_operandOfCode c, fun h => h ▸ operandOfCode_code o⟩

/-- 111 is the code of M. -/
theorem operandOfCode_eq_m_iff {c : BitVec 3} : operandOfCode c = .m ↔ c = 0b111#3 :=
  operandOfCode_eq_iff.trans eq_comm

/-- Every code but 111 is that of a cell. -/
theorem exists_reg_of_code_ne {c : BitVec 3} (hc : c ≠ 0b111#3) :
    ∃ r : Reg, operandOfCode c = .reg r ∧ r.code = c := by
  cases h : operandOfCode c with
  | reg r => exact ⟨r, rfl, operandOfCode_eq_iff.mp h⟩
  | m => exact absurd (operandOfCode_eq_m_iff.mp h) hc

/-! ## Operands (10_state.md R25 to R28) -/

@[simp] theorem readSrc_reg (s : State) (r : Reg) : s.readSrc (.reg r) = s.reg r := rfl

@[simp] theorem readSrc_m (s : State) : s.readSrc .m = s.memRead s.maddr := rfl

@[simp] theorem writeDst_reg (s : State) (r : Reg) (v : Byte) : s.writeDst (.reg r) v = s.setReg r v := rfl

@[simp] theorem writeDst_m (s : State) (v : Byte) : s.writeDst .m v = s.memWrite s.maddr v := rfl

/-- The M pointer depends on the cells H and L alone. -/
theorem maddr_congr {s t : State} (hh : t.reg .h = s.reg .h) (hl : t.reg .l = s.reg .l) : t.maddr = s.maddr := by
  simp only [State.reg] at hh hl
  simp only [State.maddr, hh, hl]

/-- The byte at M depends on H, L and memory alone. -/
theorem readSrc_m_congr {s t : State} (hh : t.reg .h = s.reg .h) (hl : t.reg .l = s.reg .l) (hm : t.mem = s.mem) :
    t.readSrc .m = s.readSrc .m := by
  simp [maddr_congr hh hl, hm]

/-! ## The obligations -/

/-- Settles O7, by the inverse pair of `operandOfCode` and `Operand.code`, and the rules of `setReg`. -/
theorem registerCellsAreIndependent : Obligations.RegisterCellsAreIndependent := by
  refine ⟨fun c => ?codes, fun s r v => ?cells⟩
  case codes =>
    by_cases hc : c = 0b111#3
    · exact .inl ⟨hc, operandOfCode_eq_m_iff.mpr hc⟩
    · exact .inr ⟨hc, exists_reg_of_code_ne hc⟩
  case cells =>
    refine ⟨s.reg_setReg_self r v, fun q hq => s.reg_setReg_ne hq v, ?frame⟩
    simp

/-- Settles O8, by the operand that the code names. -/
theorem operandIsACellOrTheByteAtM : Obligations.OperandIsACellOrTheByteAtM := by
  intro s v c
  constructor
  · intro hc
    obtain ⟨r, hr, hcode⟩ := exists_reg_of_code_ne hc
    rw [hr]
    exact ⟨r, hcode, readSrc_reg s r, writeDst_reg s r v, s.setReg_mem r v, fun _ => s.reg_congr rfl r⟩
  · intro hc
    rw [operandOfCode_eq_m_iff.mpr hc]
    exact ⟨readSrc_m s, writeDst_m s v, s.memWrite_regs s.maddr v, fun _ => readSrc_m_congr⟩

/-- Settles O11, by the two cases of a push. -/
theorem pushStoresOrReportsOverflow : Obligations.PushStoresOrReportsOverflow :=
  fun _ a => ⟨State.push_of_lt a, State.push_of_full a⟩

/-- Settles O12, by the two cases of a pop. -/
theorem popReturnsNewestOrReportsUnderflow : Obligations.PopReturnsNewestOrReportsUnderflow :=
  fun _ => ⟨State.pop_of_pos, State.pop_of_empty⟩

end Sys2Proof.Proofs
end

section
/-! PROOFS. 20_memory.md: one write to memory, and the fetch of a byte and of an address word. -/

namespace Sys2Proof.Proofs

open Sys2Proof.Machine

/-! ## A read after a write (20_memory.md R52, R53) -/

theorem memRead_memWrite_self (s : State) (a : Addr) (v : Byte) : (s.memWrite a v).memRead a = v :=
  s.mem.read_write_self a v

theorem memRead_memWrite_ne (s : State) {a b : Addr} (h : b ≠ a) (v : Byte) :
    (s.memWrite a v).memRead b = s.memRead b :=
  s.mem.read_write_ne h v

/-! ## Fetch (20_memory.md R55, R56) -/

theorem fetch8_eq (s : State) : s.fetch8 = (s.memRead s.pc, s.setPc (s.pc + 1#14)) := rfl

/-- The second byte comes from the address after pc, since the first fetch moves pc alone. -/
theorem fetch16_eq (s : State) :
    s.fetch16 = (addrWord (s.memRead s.pc) (s.memRead (s.pc + 1#14)), s.setPc (s.pc + 2#14)) := by
  have hpc : s.pc + 1#14 + 1#14 = s.pc + 2#14 := BitVec.add_assoc ..
  rw [← hpc]
  rfl

/-! ## The obligations -/

/-- Settles O5, by the two cases of a read after a write; the core fields are the frame of `memWrite`. -/
theorem memoryWriteChangesOneByte : Obligations.MemoryWriteChangesOneByte := by
  intro s a v
  refine ⟨memRead_memWrite_self s a v, fun b hb => memRead_memWrite_ne s hb v, ?frame⟩
  simp

/-- Settles O10: Fetch16 is two fetches of a byte, and pc is 14 bits wide, so it wraps by itself. -/
theorem fetchReadsAtPcAndAdvances : Obligations.FetchReadsAtPcAndAdvances := by
  intro s
  refine ⟨fetch8_eq s, fun hpc => ?wrap, ?word, ?next⟩
  case wrap =>
    rw [fetch8_eq, State.setPc_pc, hpc]
    rfl
  case word =>
    rw [fetch16_eq, addrWord_toNat]
  case next =>
    rw [fetch16_eq]
    rfl

end Sys2Proof.Proofs
end

section
/-! PROOFS. 40_alu_flag_unit.md: the flags of a result, increment, and the ALU operations that read no carry. -/

namespace Sys2Proof.Proofs

open Sys2Proof.Machine Sys2Proof.Safety Sys2Proof.Laws

/-! ## The flags of a result (40_alu_flag_unit.md R100, R101) -/

/-- The sum of the eight bits counts the positions that hold a 1. -/
theorem popcount_eq_countP (v : Byte) : popcount v = (List.range 8).countP (fun i => v.getLsbD i) := by
  have hrange : List.range 8 = [0, 1, 2, 3, 4, 5, 6, 7] := rfl
  simp only [hrange, List.countP_cons, List.countP_nil, popcount, Bool.toNat, ← Bool.cond_eq_ite]
  omega

theorem flagsOf_zero (c : Bool) : flagsOf 0x00#8 c = { fs := false, fz := true, fp := true, fc := c } := rfl

/-! ## Increment (40_alu_flag_unit.md R111) -/

theorem exec_inrInstr (r : CountReg) (s : State) :
    exec (inrInstr r) s = .next
      { s.setReg r.toReg (s.reg r.toReg + 1#8) with flags := flagsOf (s.reg r.toReg + 1#8) s.flags.fc } := by
  rw [← incReg_spec]
  exact exec_instr (.inr r) s

/-! ## Result and carry of an operation (40_alu_flag_unit.md R102, R104, R109) -/

theorem aluResult_add (a v : Byte) (c : Bool) :
    aluResult .add a v c = (a + v, decide (255 < a.toNat + v.toNat)) :=
  Prod.ext (aluAdd_fst a v) rfl

theorem aluResult_sub (a v : Byte) (c : Bool) : aluResult .sub a v c = (a - v, decide (a.toNat < v.toNat)) :=
  Prod.ext (aluSub_fst a v) rfl

theorem aluResult_cmp (a v : Byte) (c : Bool) : aluResult .cmp a v c = (a - v, false) :=
  Prod.ext (aluSub_fst a v) rfl

/-! ## The two forms of an ALU instruction (40_alu_flag_unit.md R110) -/

/-- Every operation but compare stores its result and its carry, whatever the form. -/
theorem aluExec_of_ne_cmp {p : AluOp} (hp : p ≠ .cmp) {v r : Byte} {c : Bool} {s : State} (form : AluForm)
    (hr : aluResult p s.regs.a v s.flags.fc = (r, c)) :
    aluExec p v form s = { s with regs := { s.regs with a := r }, flags := flagsOf r c } := by
  rw [aluExec_spec, hr]
  cases p with
  | cmp => exact absurd rfl hp
  | _ => rfl

/-- Compare stores no result; its form decides about carry. -/
theorem aluExec_cmp (v : Byte) (form : AluForm) (s : State) :
    aluExec .cmp v form s = { s with flags := flagsOf (s.regs.a - v) (aluCarry .cmp form false s.flags.fc) } := by
  rw [aluExec_spec, aluResult_cmp]
  rfl

theorem exec_aluImmInstr_of_ne_cmp (p : AluOp) (hp : p ≠ .cmp) {v r : Byte} {c : Bool} {s : State}
    (hr : aluResult p s.regs.a v s.flags.fc = (r, c)) :
    exec (aluImmInstr p v) s = .next { s with regs := { s.regs with a := r }, flags := flagsOf r c } := by
  rw [← aluExec_of_ne_cmp hp .imm hr]
  exact exec_instr (.aluImm p v) s

theorem exec_aluInstr_of_ne_cmp (p : AluOp) (hp : p ≠ .cmp) (o : Operand) {r : Byte} {c : Bool} {s : State}
    (hr : aluResult p s.regs.a (s.readSrc o) s.flags.fc = (r, c)) :
    exec (aluInstr p o) s = .next { s with regs := { s.regs with a := r }, flags := flagsOf r c } := by
  rw [← aluExec_of_ne_cmp hp .regmem hr]
  exact exec_instr (.alu p o) s

theorem exec_aluInstr_cmp (o : Operand) (s : State) :
    exec (aluInstr .cmp o) s = .next { s with flags := flagsOf (s.regs.a - s.readSrc o) false } :=
  (exec_instr (.alu .cmp o) s).trans (congrArg _ (aluExec_cmp (s.readSrc o) .regmem s))

/-! ## The obligations -/

/-- Settles O15, by the equality of the two countings of the 1 bits. -/
theorem setSZPWritesSignZeroParity : Obligations.SetSZPWritesSignZeroParity := by
  intro v f
  refine ⟨setSZP_eq v f, ?parity⟩
  rw [← popcount_eq_countP]
  rfl

/-- Settles O17, by the action of INR; 0xFF plus one is 0x00 in a byte. -/
theorem incrementResult : Obligations.IncrementResult := by
  refine ⟨exec_inrInstr, fun r s hff => ?wrap⟩
  have hsum : s.reg r.toReg + 1#8 = 0x00#8 := by rw [hff]; rfl
  rw [exec_inrInstr, hsum, flagsOf_zero]

/-- Settles O19, by the result and carry of add. -/
theorem addResult : Obligations.AddResult :=
  ⟨fun _ _ => exec_aluImmInstr_of_ne_cmp .add nofun (aluResult_add ..),
    fun o _ => exec_aluInstr_of_ne_cmp .add nofun o (aluResult_add ..)⟩

/-- Settles O21, by the result and borrow of subtract. -/
theorem subtractResult : Obligations.SubtractResult :=
  ⟨fun _ _ => exec_aluImmInstr_of_ne_cmp .sub nofun (aluResult_sub ..),
    fun o _ => exec_aluInstr_of_ne_cmp .sub nofun o (aluResult_sub ..)⟩

/-- Settles O22: the logic operations answer carry 0 by definition, and a byte xor itself is 0x00. -/
theorem logicAndCompareClearCarry : Obligations.LogicAndCompareClearCarry := by
  refine ⟨fun v s => ⟨?ani, ?xri, ?ori⟩, fun o s => ⟨?ana, ?xra, ?ora, exec_aluInstr_cmp o s⟩, fun s => ?xraA⟩
  case ani => exact exec_aluImmInstr_of_ne_cmp .ana nofun rfl
  case xri => exact exec_aluImmInstr_of_ne_cmp .xra nofun rfl
  case ori => exact exec_aluImmInstr_of_ne_cmp .ora nofun rfl
  case ana => exact exec_aluInstr_of_ne_cmp .ana nofun o rfl
  case xra => exact exec_aluInstr_of_ne_cmp .xra nofun o rfl
  case ora => exact exec_aluInstr_of_ne_cmp .ora nofun o rfl
  case xraA =>
    have hxor : aluResult .xra s.regs.a (s.readSrc (.reg .a)) s.flags.fc = (0x00#8, false) :=
      congrArg (·, false) BitVec.xor_self
    rw [← flagsOf_zero]
    exact exec_aluInstr_of_ne_cmp .xra nofun (.reg .a) hxor

end Sys2Proof.Proofs
end

section
/-! PROOFS. 40_alu_flag_unit.md R113: the rotates, and how many of them restore what they rotate. -/

namespace Sys2Proof.Proofs

open Sys2Proof.Machine Sys2Proof.Safety Sys2Proof.Laws

/-! ## Rotations of a bit vector by one place -/

section

variable {w : Nat} (hw : 1 < w) (x : BitVec w)
include hw

/-- The place after the top one is place 0. -/
theorem getLsbD_rotateRight_one {i : Nat} (hi : i < w) : (x.rotateRight 1).getLsbD i = x.getLsbD ((i + 1) % w) := by
  rw [BitVec.getLsbD_rotateRight_of_lt hw]
  rcases Nat.lt_or_ge i (w - 1) with h | h
  · have hnext : (i + 1) % w = 1 + i := by rw [Nat.mod_eq_of_lt (by omega), Nat.add_comm]
    simp [h, hnext]
  · obtain rfl : i = w - 1 := by omega
    have hnext : (w - 1 + 1) % w = 0 := by rw [Nat.sub_add_cancel (by omega), Nat.mod_self]
    rw [hnext]
    simp [hi]

theorem getLsbD_iterate_rotateRight_one (n : Nat) {i : Nat} (hi : i < w) :
    ((BitVec.rotateRight · 1)^[n] x).getLsbD i = x.getLsbD ((i + n) % w) := by
  induction n generalizing i with
  | zero => rw [Function.iterate_zero_apply, Nat.add_zero, Nat.mod_eq_of_lt hi]
  | succ n ih =>
    rw [Function.iterate_succ_apply', getLsbD_rotateRight_one hw _ hi, ih (Nat.mod_lt _ (by omega)),
      Nat.mod_add_mod, Nat.add_assoc, Nat.add_comm 1]

theorem iterate_rotateRight_width : (BitVec.rotateRight · 1)^[w] x = x := by
  apply BitVec.eq_of_getLsbD_eq
  intro i hi
  rw [getLsbD_iterate_rotateRight_one hw x w hi, Nat.add_mod_right, Nat.mod_eq_of_lt hi]

theorem rotateLeft_rotateRight_one : (x.rotateRight 1).rotateLeft 1 = x := by
  apply BitVec.eq_of_getLsbD_eq
  intro i hi
  rw [BitVec.getLsbD_rotateLeft_of_le hw]
  cases i with
  | zero => simp [getLsbD_rotateRight_one hw x (i := w - 1) (by omega), Nat.sub_add_cancel (Nat.le_of_lt hw)]
  | succ i => simp [getLsbD_rotateRight_one hw x (i := i) (by omega), Nat.mod_eq_of_lt hi, hi]

/-- The rotation to the left undoes the rotation to the right, so it has the same period. -/
theorem iterate_rotateLeft_width : (BitVec.rotateLeft · 1)^[w] x = x :=
  calc (BitVec.rotateLeft · 1)^[w] x
    _ = (BitVec.rotateLeft · 1)^[w] ((BitVec.rotateRight · 1)^[w] x) := by rw [iterate_rotateRight_width hw]
    _ = x := Function.LeftInverse.iterate (g := (BitVec.rotateLeft · 1)) (rotateLeft_rotateRight_one hw) w x

end

/-! ## What each rotate turns: RAL and RAR nine bits, RLC and RRC eight -/

/-- The nine bits of carry and A, carry on top. -/
def carryRing (p : Byte × Bool) : BitVec 9 := BitVec.ofBool p.2 ++ p.1

theorem carryRing_injective : Function.Injective carryRing := by
  rintro ⟨a, c⟩ ⟨b, d⟩ h
  have hlow : a = b := by
    simpa only [carryRing, BitVec.extractLsb'_append_eq_right] using congrArg (BitVec.extractLsb' 0 8) h
  have htop : BitVec.ofBool c = BitVec.ofBool d := by
    simpa only [carryRing, BitVec.extractLsb'_append_eq_left] using congrArg (BitVec.extractLsb' 8 1) h
  rw [hlow, BitVec.ofBool_eq_iff_eq.mp htop]

theorem carryRing_ral : Function.Semiconj carryRing (fun p => rotate8 .ral p.1 p.2) (BitVec.rotateLeft · 1) := by
  rintro ⟨a, c⟩
  revert a c; decide

theorem carryRing_rar : Function.Semiconj carryRing (fun p => rotate8 .rar p.1 p.2) (BitVec.rotateRight · 1) := by
  rintro ⟨a, c⟩
  revert a c; decide

theorem fst_rlc : Function.Semiconj Prod.fst (fun p : Byte × Bool => rotate8 .rlc p.1 p.2) (BitVec.rotateLeft · 1) :=
  fun p => congrArg Prod.fst (rotate8_rlc p.1 p.2)

theorem fst_rrc : Function.Semiconj Prod.fst (fun p : Byte × Bool => rotate8 .rrc p.1 p.2) (BitVec.rotateRight · 1) :=
  fun p => congrArg Prod.fst (rotate8_rrc p.1 p.2)

/-! ## One rotate instruction -/

theorem exec_rotateInstr {k : Rotate} {s : State} {r : Byte} {c : Bool} (hr : rotate8 k s.regs.a s.flags.fc = (r, c)) :
    exec (rotateInstr k) s = .next { s with regs := { s.regs with a := r }, flags := flagsOf r c } := by
  have hrun : exec (rotateInstr k) s = .next (rotateAcc k s) := exec_instr (.rotate k) s
  rw [hrun, rotateAcc_spec, hr]

/-! ## The obligation -/

/-- Settles O24: RAL and RAR rotate the nine bits of carry and A, RLC and RRC the eight bits of A, and a rotation by
one place repeated as often as there are bits is the identity. -/
theorem rotateResultsAndCycles : Obligations.RotateResultsAndCycles := by
  refine ⟨fun s => ⟨?rlc, ?rrc, ?ral, ?rar⟩, fun a c => ⟨?ral9, ?rar9, ?rlc8, ?rrc8⟩⟩
  case rlc => exact exec_rotateInstr (rotate8_rlc ..)
  case rrc => exact exec_rotateInstr (rotate8_rrc ..)
  case ral => exact exec_rotateInstr (rotate8_ral ..)
  case rar => exact exec_rotateInstr (rotate8_rar ..)
  case ral9 =>
    apply carryRing_injective
    exact (carryRing_ral.iterate_right 9 (a, c)).trans (iterate_rotateLeft_width (by decide) _)
  case rar9 =>
    apply carryRing_injective
    exact (carryRing_rar.iterate_right 9 (a, c)).trans (iterate_rotateRight_width (by decide) _)
  case rlc8 => exact (fst_rlc.iterate_right 8 (a, c)).trans (iterate_rotateLeft_width (by decide) a)
  case rrc8 => exact (fst_rrc.iterate_right 8 (a, c)).trans (iterate_rotateRight_width (by decide) a)

end Sys2Proof.Proofs
end

section
/-! PROOFS. 42_group00_return_restart.md R150: the return, from its opcode byte to the state it leaves. -/

namespace Sys2Proof.Proofs

open Sys2Proof.Machine Sys2Proof.Laws

/-! ## The fields of an opcode byte (30_encoding.md R71) -/

@[simp] theorem groupField_opcodeByte (g : BitVec 2) (m l : BitVec 3) : groupField (opcodeByte g m l) = g := by
  revert g m l; decide

@[simp] theorem midField_opcodeByte (g : BitVec 2) (m l : BitVec 3) : midField (opcodeByte g m l) = m := by
  revert g m l; decide

@[simp] theorem lowField_opcodeByte (g : BitVec 2) (m l : BitVec 3) : lowField (opcodeByte g m l) = l :=
  BitVec.extractLsb'_append_eq_right

/-! ## Decoding of a return (30_encoding.md R72, R73, R82) -/

/-- A 1-byte instruction takes its opcode byte and leaves the rest. -/
theorem decode_of_instrLength_one {op : Byte} (h : instrLength op = 1) (rest : List Byte) :
    decode (op :: rest) = .ok (decodeOpcode op 0#8 0#16, rest) := by
  simp only [decode, h]

/-- The halt test comes first in group 00; the bytes it takes have bits 2:1 clear. -/
theorem not_halt_of_lowField {op : Byte} (h : (lowField op).extractLsb' 1 2 ≠ 0b00#2) :
    op.extractLsb' 1 7 ≠ 0b0000000#7 := by
  revert op; decide

theorem instrLength_retByte (x : BitVec 3) : instrLength (opcodeByte 0b00#2 x 0b111#3) = 1 := by
  simp [instrLength]

theorem decodeOpcode_retByte (x : BitVec 3) (v : Byte) (w : Word) :
    decodeOpcode (opcodeByte 0b00#2 x 0b111#3) v w = .ret x := by
  have hhalt : (opcodeByte 0b00#2 x 0b111#3).extractLsb' 1 7 ≠ 0b0000000#7 :=
    not_halt_of_lowField (by rw [lowField_opcodeByte]; decide)
  simp [decodeOpcode, decodeGroup00, hhalt]

/-! ## The action of a return (R150) -/

theorem ret_of_pos {s : State} (h : 0 < s.sp.val) :
    ret s = { s with sp := ⟨s.sp.val - 1, by omega⟩, pc := s.stk[s.sp.val - 1]'(by omega) } := by
  simp only [ret, State.pop_of_pos h]
  rfl

theorem ret_of_empty {s : State} (h : s.sp.val = 0) : ret s = s.report .stackUnderflow := by
  simp only [ret, State.pop_of_empty h]
  rfl

/-! ## The obligation -/

/-- Settles O28: the low field 111 is the last test of group 00, and the two cases of a pop are those of the return. -/
theorem returnResult : Obligations.ReturnResult := by
  refine ⟨fun x rest => ?decodes, fun x s hpos => ?pops, fun x s hempty => ?reports⟩
  case decodes => rw [decode_of_instrLength_one (instrLength_retByte x), decodeOpcode_retByte]
  case pops => exact (exec_instr (.ret x) s).trans (congrArg _ (ret_of_pos hpos))
  case reports => exact (exec_instr (.ret x) s).trans (congrArg _ (ret_of_empty hempty))

end Sys2Proof.Proofs
end

section
/-! PROOFS. 43_group01_jump_call_io.md R160: the jump, from its opcode byte and address word to the state it leaves. -/

namespace Sys2Proof.Proofs

open Sys2Proof.Machine Sys2Proof.Laws

/-! ## Decoding of a jump (30_encoding.md R72, R73, R79) -/

/-- A 3-byte instruction takes its opcode byte and an address word, low byte first, and leaves the rest. -/
theorem decode_of_instrLength_three {op : Byte} (h : instrLength op = 3) (lo hi : Byte) (rest : List Byte) :
    decode (op :: lo :: hi :: rest) = .ok (decodeOpcode op 0#8 (addrWord lo hi), rest) := by
  simp only [decode, h]

theorem instrLength_jmpByte (x : BitVec 3) : instrLength (opcodeByte 0b01#2 x 0b100#3) = 3 := by
  simp [instrLength]

theorem decodeOpcode_jmpByte (x : BitVec 3) (v : Byte) (w : Word) :
    decodeOpcode (opcodeByte 0b01#2 x 0b100#3) v w = .jmp x w := by
  simp [decodeOpcode, decodeGroup01]

/-! ## The target of a transfer (20_memory.md R51) -/

theorem mask14_eq_ofNat (w : Word) : mask14 w = BitVec.ofNat 14 (w.toNat % 16384) := by
  rw [← mask14_toNat, BitVec.ofNat_toNat, BitVec.setWidth_eq]

theorem jump_eq (w : Word) (s : State) : jump w s = { s with pc := BitVec.ofNat 14 (w.toNat % 16384) } := by
  rw [← mask14_eq_ofNat]
  rfl

/-! ## The obligation -/

/-- Settles O31: the low field 100 of group 01 is that of JMP, and the value of the address word is
`hi * 256 + lo`, of which the mask keeps the remainder modulo 16384. -/
theorem jumpResult : Obligations.JumpResult := by
  refine ⟨fun x lo hi rest => ?decodes, fun x lo hi s => ?jumps⟩
  case decodes =>
    rw [decode_of_instrLength_three (instrLength_jmpByte x), decodeOpcode_jmpByte]
    rfl
  case jumps =>
    have hrun : exec (.jmp x (hi ++ lo)) s = .next (jump (addrWord lo hi) s) := exec_instr (.jmp x (hi ++ lo)) s
    rw [hrun, jump_eq, addrWord_toNat]

end Sys2Proof.Proofs
end

section
/-! PROOFS. 30_encoding.md, the opcode map: the bytes of every shape of instruction, and that decoding and encoding are
inverse to each other. -/

namespace Sys2Proof.Laws

/-! ## The encoding of a shape, field by field (30_encoding.md R82 to R85) -/

/-- The opcode byte of a shape. -/
def Shape.opcode : Shape → Byte
  | .hlt op | .unk op => op
  | .inr r => opcodeByte 0b00#2 r.toReg.code 0b000#3
  | .dcr r => opcodeByte 0b00#2 r.toReg.code 0b001#3
  | .rotate k => opcodeByte 0b00#2 k.code 0b010#3
  | .retIf k => opcodeByte 0b00#2 k.code 0b011#3
  | .aluImm p _ => opcodeByte 0b00#2 p.code 0b100#3
  | .rst a => opcodeByte 0b00#2 a 0b101#3
  | .mvi o _ => opcodeByte 0b00#2 o.code 0b110#3
  | .ret x => opcodeByte 0b00#2 x 0b111#3
  | .jumpIf k _ => opcodeByte 0b01#2 k.code 0b000#3
  | .callIf k _ => opcodeByte 0b01#2 k.code 0b010#3
  | .jmp x _ => opcodeByte 0b01#2 x 0b100#3
  | .call x _ => opcodeByte 0b01#2 x 0b110#3
  | .iop x => 0b01#2 ++ x ++ 0b1#1
  | .alu p o => opcodeByte 0b10#2 p.code o.code
  | .mov r q => opcodeByte 0b11#2 r.code q.code
  | .movFromM r => opcodeByte 0b11#2 r.code 0b111#3
  | .movToM r => opcodeByte 0b11#2 0b111#3 r.code

/-- The bytes after the opcode: an immediate, an address word, or none. -/
def Shape.operandBytes : Shape → List Byte
  | .aluImm _ v | .mvi _ v => [v]
  | .jmp _ w | .jumpIf _ w | .call _ w | .callIf _ w => addrBytes w
  | _ => []

/-- The immediate byte of a shape, 0 where it has none. -/
def Shape.immediate : Shape → Byte
  | .aluImm _ v | .mvi _ v => v
  | _ => 0#8

/-- The address word of a shape, 0 where it has none. -/
def Shape.address : Shape → Word
  | .jmp _ w | .jumpIf _ w | .call _ w | .callIf _ w => w
  | _ => 0#16

/-- Which shapes stand for an encoding: the checks of `Instr.wf`. -/
def Shape.wf : Shape → Bool
  | .hlt op => haltBytes.contains op
  | .unk op => unknownBytes.contains op
  | _ => true

/-- The shape of the instruction of a shape is that shape. -/
theorem shapeOf_instr (f : Shape) : shapeOf f.instr = f := by
  cases f with
  | inr r => cases r <;> rfl
  | dcr r => cases r <;> rfl
  | aluImm p v => cases p <;> rfl
  | mvi o v => cases o with
    | m => rfl
    | reg r => cases r <;> rfl
  | rotate k => cases k <;> rfl
  | retIf k => obtain ⟨n, b⟩ := k; cases n <;> cases b <;> rfl
  | jumpIf k w => obtain ⟨n, b⟩ := k; cases n <;> cases b <;> rfl
  | callIf k w => obtain ⟨n, b⟩ := k; cases n <;> cases b <;> rfl
  | rst a => match a with
    | 0b000#3 | 0b001#3 | 0b010#3 | 0b011#3 | 0b100#3 | 0b101#3 | 0b110#3 | 0b111#3 => rfl
  | alu p o => cases o with
    | m => cases p <;> rfl
    | reg r => cases p <;> cases r <;> rfl
  | mov r q => cases r <;> cases q <;> rfl
  | movFromM r => cases r <;> rfl
  | movToM r => cases r <;> rfl
  | _ => rfl

theorem instr_injective : Function.Injective Shape.instr := Function.LeftInverse.injective shapeOf_instr

/-- The encoder writes the opcode byte of the shape, then its operand bytes. -/
theorem encode_eq_shape (i : Instr) : encode i = (shapeOf i).opcode :: (shapeOf i).operandBytes := by cases i <;> rfl

theorem wf_eq_shape (i : Instr) : i.wf = (shapeOf i).wf := by cases i <;> rfl

theorem encode_instr (f : Shape) : encode f.instr = f.opcode :: f.operandBytes := by
  rw [encode_eq_shape, shapeOf_instr]

theorem wf_instr (f : Shape) : f.instr.wf = f.wf := by rw [wf_eq_shape, shapeOf_instr]

end Sys2Proof.Laws

namespace Sys2Proof.Proofs

open Sys2Proof.Machine Sys2Proof.Laws

/-! ## Codes (30_encoding.md R74 to R80) -/

@[simp] theorem countRegOfCode_code (r : CountReg) : countRegOfCode r.toReg.code = some r := by cases r <;> rfl

@[simp] theorem aluOfCode_code (p : AluOp) : aluOfCode p.code = p := by cases p <;> rfl

@[simp] theorem rotateOfCode_code (k : Rotate) : rotateOfCode k.code = some k := by cases k <;> rfl

@[simp] theorem condOfCode_code (k : Cond) : condOfCode k.code = k := by
  obtain ⟨n, b⟩ := k
  cases n <;> cases b <;> rfl

theorem operandOfCode_regCode (r : Reg) : operandOfCode r.code = .reg r := operandOfCode_code (.reg r)

/-! ## Each pattern of the opcode map decodes (30_encoding.md R73, R82 to R85) -/

/-- A 2-byte instruction takes its opcode byte and an immediate, and leaves the rest. -/
theorem decode_of_instrLength_two {op : Byte} (h : instrLength op = 2) (v : Byte) (rest : List Byte) :
    decode (op :: v :: rest) = .ok (decodeOpcode op v 0#16, rest) := by
  simp only [decode, h]

theorem instrLength_opcodeByte (g : BitVec 2) (m l : BitVec 3) :
    instrLength (opcodeByte g m l) =
      if g = 0b00#2 ∧ (l = 0b100#3 ∨ l = 0b110#3) then 2
      else if g = 0b01#2 ∧ l.getLsbD 0 = false then 3 else 1 := by
  simp [instrLength]

/-- The halt test of group 00 takes the bytes 0x00 and 0x01. -/
theorem halt_opcodeByte_iff (m l : BitVec 3) :
    (opcodeByte 0b00#2 m l).extractLsb' 1 7 = 0b0000000#7 ↔ m = 0b000#3 ∧ (l = 0b000#3 ∨ l = 0b001#3) := by
  revert m l; decide

/-- The halt test of group 11 takes the byte 0xFF. -/
theorem opcodeByte_eq_FF_iff (m l : BitVec 3) : opcodeByte 0b11#2 m l = 0b11111111#8 ↔ m = 0b111#3 ∧ l = 0b111#3 := by
  revert m l; decide

/-- The operand bytes are as many as the opcode byte asks for. -/
theorem instrLength_opcode {f : Shape} (hwf : f.wf = true) : instrLength f.opcode = f.operandBytes.length + 1 := by
  cases f with
  | hlt op =>
    have hlen : ∀ op ∈ haltBytes, instrLength op = 1 := by decide
    exact hlen op (List.contains_iff_mem.mp hwf)
  | unk op =>
    have hlen : ∀ op ∈ unknownBytes, instrLength op = 1 := by decide
    exact hlen op (List.contains_iff_mem.mp hwf)
  | iop x =>
    have hlen : ∀ x : BitVec 5, instrLength (0b01#2 ++ x ++ 0b1#1) = 1 := by decide
    exact hlen x
  | _ => simp [Shape.opcode, Shape.operandBytes, addrBytes, instrLength_opcodeByte]

/-- The code of a cell that INR and DCR accept is not that of the halt bytes. -/
theorem countReg_code_ne (r : CountReg) : r.toReg.code ≠ 0b000#3 := by cases r <;> decide

theorem reg_code_ne (r : Reg) : r.code ≠ 0b111#3 := by cases r <;> decide

/-- The decode procedure reads every shape back from the fields of its opcode byte (30_encoding.md R73). -/
theorem decodeOpcode_opcode {f : Shape} (hwf : f.wf = true) :
    decodeOpcode f.opcode f.immediate f.address = f.instr := by
  cases f with
  | hlt op =>
    have hop : ∀ op ∈ haltBytes, decodeOpcode op 0#8 0#16 = .hlt op := by decide
    exact hop op (List.contains_iff_mem.mp hwf)
  | unk op =>
    have hop : ∀ op ∈ unknownBytes, decodeOpcode op 0#8 0#16 = .unk op := by decide
    exact hop op (List.contains_iff_mem.mp hwf)
  | iop x =>
    have hx : ∀ x : BitVec 5, decodeOpcode (0b01#2 ++ x ++ 0b1#1) 0#8 0#16 = .iop x := by decide
    exact hx x
  | inr r | dcr r =>
    simp [Shape.opcode, decodeOpcode, decodeGroup00, halt_opcodeByte_iff, countReg_code_ne, Shape.instr]
  | rotate _ | retIf _ | aluImm _ _ | rst _ | mvi _ _ | ret _ =>
    simp [Shape.opcode, decodeOpcode, decodeGroup00, halt_opcodeByte_iff, Shape.instr, Shape.immediate]
  | jumpIf _ w | callIf _ w | jmp _ w | call _ w =>
    simp [Shape.opcode, decodeOpcode, decodeGroup01, Shape.instr, Shape.address]
  | alu p o => simp [Shape.opcode, decodeOpcode, decodeGroup10, Shape.instr]
  | mov _ _ | movFromM _ | movToM _ =>
    have hm : operandOfCode 0b111#3 = .m := operandOfCode_eq_m_iff.mpr rfl
    simp [Shape.opcode, decodeOpcode, decodeGroup11, opcodeByte_eq_FF_iff, operandOfCode_regCode, hm, reg_code_ne,
      Shape.instr]

/-- Decoding takes the bytes of a shape and leaves what follows them. -/
theorem decode_instr {f : Shape} (hwf : f.wf = true) (rest : List Byte) :
    decode (f.opcode :: (f.operandBytes ++ rest)) = .ok (f.instr, rest) := by
  have hlen := instrLength_opcode hwf
  rw [← decodeOpcode_opcode hwf]
  cases f with
  | aluImm _ v | mvi _ v => exact decode_of_instrLength_two hlen v rest
  | jmp _ w | jumpIf _ w | call _ w | callIf _ w =>
    refine (decode_of_instrLength_three hlen (w.extractLsb' 0 8) (w.extractLsb' 8 8) rest).trans ?_
    rw [addrWord_extract]
    rfl
  | _ => exact decode_of_instrLength_one hlen rest

theorem decode_of_operandBytes {f : Shape} (hwf : f.wf = true) {operands : List Byte}
    (hoperands : f.operandBytes = operands) (rest : List Byte) :
    decode (f.opcode :: (operands ++ rest)) = .ok (f.instr, rest) :=
  hoperands ▸ decode_instr hwf rest

/-! ## Every byte list that decodes starts with the bytes of a shape (30_encoding.md R86) -/

theorem exists_opcode (op : Byte) : ∃ f : Shape, f.wf = true ∧ f.opcode = op := by
  have hshape : ∀ op, (shapeOf (decodeOpcode op 0#8 0#16)).wf = true ∧
      (shapeOf (decodeOpcode op 0#8 0#16)).opcode = op := by decide
  exact ⟨_, hshape op⟩

/-- The operand bytes of a shape are free: any others of the same number belong to a shape with the same opcode. -/
theorem exists_operandBytes (f : Shape) {bs : List Byte} (hlen : bs.length = f.operandBytes.length) :
    ∃ g : Shape, g.wf = f.wf ∧ g.opcode = f.opcode ∧ g.operandBytes = bs := by
  cases f with
  | aluImm p _ =>
    obtain ⟨v, rfl⟩ := List.length_eq_one_iff.mp hlen
    exact ⟨.aluImm p v, rfl, rfl, rfl⟩
  | mvi o _ =>
    obtain ⟨v, rfl⟩ := List.length_eq_one_iff.mp hlen
    exact ⟨.mvi o v, rfl, rfl, rfl⟩
  | jmp x _ =>
    obtain ⟨lo, hi, rfl⟩ := List.length_eq_two.mp hlen
    exact ⟨.jmp x (addrWord lo hi), rfl, rfl, addrBytes_addrWord lo hi⟩
  | jumpIf k _ =>
    obtain ⟨lo, hi, rfl⟩ := List.length_eq_two.mp hlen
    exact ⟨.jumpIf k (addrWord lo hi), rfl, rfl, addrBytes_addrWord lo hi⟩
  | call x _ =>
    obtain ⟨lo, hi, rfl⟩ := List.length_eq_two.mp hlen
    exact ⟨.call x (addrWord lo hi), rfl, rfl, addrBytes_addrWord lo hi⟩
  | callIf k _ =>
    obtain ⟨lo, hi, rfl⟩ := List.length_eq_two.mp hlen
    exact ⟨.callIf k (addrWord lo hi), rfl, rfl, addrBytes_addrWord lo hi⟩
  | _ => exact ⟨_, rfl, rfl, (List.length_eq_zero_iff.mp hlen).symm⟩

/-- A list that decodes holds as many operand bytes as the opcode byte asks for. -/
theorem exists_operands_of_decode {op : Byte} {tail rest : List Byte} {i : Instr}
    (h : decode (op :: tail) = .ok (i, rest)) :
    ∃ operands after, tail = operands ++ after ∧ operands.length + 1 = instrLength op := by
  rcases instrLength_cases op with hop | hop | hop
  · exact ⟨[], tail, rfl, hop.symm⟩
  · match tail, h with
    | v :: after, _ => exact ⟨[v], after, rfl, hop.symm⟩
    | [], h => simp [decode, hop] at h
  · match tail, h with
    | lo :: hi :: after, _ => exact ⟨[lo, hi], after, rfl, hop.symm⟩
    | [_], h => simp [decode, hop] at h
    | [], h => simp [decode, hop] at h

/-- The inversion lemma of `decode`. -/
theorem decode_cases {bs rest : List Byte} {i : Instr} (h : decode bs = .ok (i, rest)) :
    ∃ f : Shape, f.wf = true ∧ i = f.instr ∧ bs = f.opcode :: (f.operandBytes ++ rest) := by
  match bs, h with
  | op :: tail, h =>
    obtain ⟨operands, after, rfl, hlen⟩ := exists_operands_of_decode h
    obtain ⟨f, hf, rfl⟩ := exists_opcode op
    rw [instrLength_opcode hf, Nat.add_right_cancel_iff] at hlen
    obtain ⟨g, hg, hop, rfl⟩ := exists_operandBytes f hlen
    rw [← hop, decode_instr (hg.trans hf)] at h
    obtain ⟨rfl, rfl⟩ := Prod.mk.inj (Except.ok.inj h)
    exact ⟨g, hg.trans hf, rfl, by rw [hop]⟩

/-- The length in arithmetic on the opcode byte (R72). -/
theorem instrLength_eq_arith (op : Byte) :
    instrLength op =
      if op.toNat / 64 = 0 ∧ (op.toNat % 8 = 4 ∨ op.toNat % 8 = 6) then 2
      else if op.toNat / 64 = 1 ∧ op.toNat % 2 = 0 then 3 else 1 := by
  revert op; decide

/-! ## The obligations -/

/-- Settles O52, by the shape of the instruction. -/
theorem decodeUndoesEncode : Obligations.DecodeUndoesEncode := by
  intro i rest hwf
  rw [wf_eq_shape] at hwf
  rw [encode_eq_shape, List.cons_append, decode_instr hwf, instr_shapeOf]

/-- Settles O53: the shape whose bytes were taken. -/
theorem encodeUndoesDecode : Obligations.EncodeUndoesDecode := by
  intro bs rest i h
  obtain ⟨f, hwf, rfl, rfl⟩ := decode_cases h
  exact ⟨(wf_instr f).trans hwf, by rw [encode_instr, List.cons_append]⟩

/-- Settles O50: every pattern is the opcode byte of a shape, followed by its operand bytes. -/
theorem opcodeBytesDecode : Obligations.OpcodeBytesDecode := by
  refine ⟨fun r rest => ⟨decode_instr (f := .inr r) rfl rest, decode_instr (f := .dcr r) rfl rest⟩,
    fun k rest => decode_instr (f := .rotate k) rfl rest, fun k lo hi rest => ⟨?retIf, ?jumpIf, ?callIf⟩,
    fun p v rest => decode_instr (f := .aluImm p v) rfl rest, fun a rest => decode_instr (f := .rst a) rfl rest,
    fun o v rest => decode_instr (f := .mvi o v) rfl rest, fun x lo hi rest => ?call,
    fun p o rest => decode_instr (f := .alu p o) rfl rest, fun r q rest => ⟨?mov, ?movFromM, ?movToM⟩⟩
  case retIf => exact decode_instr (f := .retIf k) rfl rest
  case jumpIf => exact decode_of_operandBytes (f := .jumpIf k (addrWord lo hi)) rfl (addrBytes_addrWord lo hi) rest
  case callIf => exact decode_of_operandBytes (f := .callIf k (addrWord lo hi)) rfl (addrBytes_addrWord lo hi) rest
  case call => exact decode_of_operandBytes (f := .call x (addrWord lo hi)) rfl (addrBytes_addrWord lo hi) rest
  case mov => exact decode_instr (f := .mov r q) rfl rest
  case movFromM => exact decode_instr (f := .movFromM r) rfl rest
  case movToM => exact decode_instr (f := .movToM q) rfl rest

/-- Settles O54: decoding takes the opcode byte and the operand bytes of a shape, and these are as many as the opcode
byte asks for. -/
theorem lengthIsAFunctionOfTheOpcode : Obligations.LengthIsAFunctionOfTheOpcode := by
  intro op tail rest i h
  obtain ⟨f, hwf, rfl, hbs⟩ := decode_cases h
  obtain ⟨rfl, rfl⟩ := List.cons.inj hbs
  rw [← instrLength_eq_arith, instrLength_opcode hwf, List.length_append]
  omega

/-- Settles O51, by evaluation: eight words and three lists that end too early. -/
theorem wordsOfTheSpecDecode : Obligations.WordsOfTheSpecDecode := by
  refine ⟨?_, ?_, ?_, ?_, ?_, ?_, ?_, ?_, ?_, ?_, ?_⟩ <;> rfl

/-- Settles O36: the bytes taken are those of a well-formed UNK, and UNK runs as the report. -/
theorem unknownOpcodeOnlyReports : Obligations.UnknownOpcodeOnlyReports := by
  refine ⟨fun op tail rest x => ⟨fun h => ?decodes, ?unknown⟩, fun op s => exec_instr (.unk op) s⟩
  case decodes =>
    obtain ⟨hwf, hbs⟩ := encodeUndoesDecode _ _ _ h
    obtain ⟨rfl, rfl⟩ := List.cons.inj hbs
    exact ⟨List.contains_iff_mem.mp hwf, rfl, rfl⟩
  case unknown =>
    rintro ⟨hop, rfl, rfl⟩
    exact decode_instr (f := .unk x) (List.contains_iff_mem.mpr hop) rest

/-- Settles O16: each halt byte is the opcode byte of a well-formed HLT. -/
theorem haltSetsTheLatch : Obligations.HaltSetsTheLatch :=
  ⟨fun rest => ⟨decode_instr (f := .hlt 0x00#8) rfl rest, decode_instr (f := .hlt 0x01#8) rfl rest,
    decode_instr (f := .hlt 0xFF#8) rfl rest⟩, fun op s => exec_instr (.hlt op) s⟩

/-- Settles O35: IOP has no operand byte, and its action is the identity. -/
theorem placeholderDoesNothing : Obligations.PlaceholderDoesNothing :=
  ⟨fun x rest => decode_instr (f := .iop x) rfl rest, fun x s => exec_instr (.iop x) s⟩

/-- Settles O26: 0x3E has the code of M in its middle field. -/
theorem loadImmediateToMemory : Obligations.LoadImmediateToMemory :=
  ⟨fun v rest => decode_instr (f := .mvi .m v) rfl rest, fun v s => exec_instr (.mvi .m v) s⟩

end Sys2Proof.Proofs
end

section
/-! PROOFS. 40_alu_flag_unit.md, 41_group00_register_immediate_control.md, 45_group11_move_halt.md: decrement, the
carry chain, compare with an immediate, and the moves. -/

namespace Sys2Proof.Proofs

open Sys2Proof.Machine Sys2Proof.Safety Sys2Proof.Laws

/-! ## Decrement (40_alu_flag_unit.md R112) -/

theorem exec_dcrInstr (r : CountReg) (s : State) :
    exec (dcrInstr r) s = .next
      { s.setReg r.toReg (s.reg r.toReg - 1#8) with flags := flagsOf (s.reg r.toReg - 1#8) s.flags.fc } := by
  rw [← decReg_spec]
  exact exec_instr (.dcr r) s

theorem flagsOf_FF (c : Bool) : flagsOf 0xFF#8 c = { fs := true, fz := false, fp := true, fc := c } := rfl

/-! ## Result and carry of the chained operations (40_alu_flag_unit.md R103, R105) -/

theorem aluResult_adc (a v : Byte) (c : Bool) :
    aluResult .adc a v c = (a + v + (BitVec.ofBool c).setWidth 8, decide (255 < a.toNat + v.toNat + c.toNat)) :=
  Prod.ext (aluAdc_fst a v c) rfl

theorem aluResult_sbb (a v : Byte) (c : Bool) :
    aluResult .sbb a v c = (a - v - (BitVec.ofBool c).setWidth 8, decide (a.toNat < v.toNat + c.toNat)) :=
  Prod.ext ((aluSbb_fst a v c).trans (sub_add_eq_sub_sub ..)) rfl

/-! ## Moves (45_group11_move_halt.md R200) -/

/-- A cell that takes its own value leaves the state as it was. -/
@[simp] theorem setReg_reg_self (s : State) (r : Reg) : s.setReg r (s.reg r) = s := by cases r <;> rfl

/-! ## The obligations -/

/-- Settles O18, by the action of DCR; 0x00 minus one is 0xFF in a byte. -/
theorem decrementResult : Obligations.DecrementResult := by
  refine ⟨exec_dcrInstr, fun r s hzero => ?wrap⟩
  have hdiff : s.reg r.toReg - 1#8 = 0xFF#8 := by rw [hzero]; rfl
  rw [exec_dcrInstr, hdiff, flagsOf_FF]

/-- Settles O20, by the results and carries of add with carry and subtract with borrow. -/
theorem carryChainResult : Obligations.CarryChainResult :=
  ⟨fun _ _ => ⟨exec_aluImmInstr_of_ne_cmp .adc nofun (aluResult_adc ..),
      exec_aluImmInstr_of_ne_cmp .sbb nofun (aluResult_sbb ..)⟩,
    fun o _ => ⟨exec_aluInstr_of_ne_cmp .adc nofun o (aluResult_adc ..),
      exec_aluInstr_of_ne_cmp .sbb nofun o (aluResult_sbb ..)⟩⟩

/-- Settles O23: the immediate form of compare answers the old carry. -/
theorem compareImmediateKeepsCarry : Obligations.CompareImmediateKeepsCarry :=
  fun v s => (exec_instr (.aluImm .cmp v) s).trans (congrArg _ (aluExec_cmp v .imm s))

/-- Settles O25: each is one write of a cell. -/
theorem loadsAndMovesIntoARegister : Obligations.LoadsAndMovesIntoARegister := by
  refine ⟨fun r v s => exec_instr (.mvi (.reg r) v) s, fun r q s => exec_instr (.mov r q) s, fun r s => ?self,
    fun r s => exec_instr (.movFromM r) s⟩
  have hrun : exec (movInstr r r) s = .next (s.setReg r (s.reg r)) := exec_instr (.mov r r) s
  rw [hrun, setReg_reg_self]

/-- Settles O27: a write of the operand M is a write at MAddr(). -/
theorem moveToMemory : Obligations.MoveToMemory := fun r s => exec_instr (.movToM r) s

end Sys2Proof.Proofs
end

section
/-! PROOFS. 42_group00_return_restart.md, 43_group01_jump_call_io.md: restarts, calls and the conditional transfers. -/

namespace Sys2Proof.Proofs

open Sys2Proof.Machine Sys2Proof.Laws

/-! ## Calls and restarts (R152, R162) -/

theorem call_of_lt (w : Word) {s : State} (h : s.sp.val < 8) :
    call w s = { s with stk := s.stk.set s.sp.val s.pc, sp := ⟨s.sp.val + 1, by omega⟩, pc := mask14 w } := by
  simp only [call, State.push_of_lt _ h]
  rfl

theorem call_of_full (w : Word) {s : State} (h : s.sp.val = 8) :
    call w s = { s with diag := s.diag ++ [.stackOverflow], pc := mask14 w } := by
  simp only [call, State.push_of_full _ h]
  rfl

theorem restart_of_lt (a : BitVec 3) {s : State} (h : s.sp.val < 8) :
    restart a s =
      { s with stk := s.stk.set s.sp.val s.pc, sp := ⟨s.sp.val + 1, by omega⟩, pc := restartVector a } := by
  simp only [restart, State.push_of_lt _ h]
  rfl

theorem restart_of_full (a : BitVec 3) {s : State} (h : s.sp.val = 8) :
    restart a s = { s with diag := s.diag ++ [.stackOverflow], pc := restartVector a } := by
  simp only [restart, State.push_of_full _ h]
  rfl

theorem restartVector_eq_ofNat (a : BitVec 3) : restartVector a = BitVec.ofNat 14 (8 * a.toNat) := by
  rw [← restartVector_toNat, BitVec.ofNat_toNat, BitVec.setWidth_eq]

/-! ## Conditions (30_encoding.md R80) -/

theorem condHolds_iff {k : Cond} {f : Flags} : condHolds k f = true ↔ flagValue k.flag f = k.sense := beq_iff_eq

section

variable {k : Cond} {s : State}

theorem retIf_of_holds (h : flagValue k.flag s.flags = k.sense) : retIf k s = ret s := if_pos (condHolds_iff.mpr h)

theorem retIf_of_not (h : flagValue k.flag s.flags ≠ k.sense) : retIf k s = s := if_neg (condHolds_iff.not.mpr h)

theorem jumpIf_of_holds (w : Word) (h : flagValue k.flag s.flags = k.sense) : jumpIf k w s = jump w s :=
  if_pos (condHolds_iff.mpr h)

theorem jumpIf_of_not (w : Word) (h : flagValue k.flag s.flags ≠ k.sense) : jumpIf k w s = s :=
  if_neg (condHolds_iff.not.mpr h)

/-- A conditional jump changes at most pc. -/
theorem jumpIf_eq (w : Word) : jumpIf k w s = s.setPc (if condHolds k s.flags then mask14 w else s.pc) := by
  unfold jumpIf
  split <;> rfl

theorem callIf_of_holds (w : Word) (h : flagValue k.flag s.flags = k.sense) : callIf k w s = call w s :=
  if_pos (condHolds_iff.mpr h)

theorem callIf_of_not (w : Word) (h : flagValue k.flag s.flags ≠ k.sense) : callIf k w s = s :=
  if_neg (condHolds_iff.not.mpr h)

end

/-! ## The action of each transfer, through `exec` -/

theorem exec_call (x : BitVec 3) (w : Word) (s : State) : exec (.call x w) s = .next (call w s) :=
  exec_instr (.call x w) s

theorem exec_ret (x : BitVec 3) (s : State) : exec (.ret x) s = .next (ret s) := exec_instr (.ret x) s

theorem exec_rstInstr (a : BitVec 3) (s : State) : exec (rstInstr a) s = .next (restart a s) := exec_instr (.rst a) s

theorem exec_retIfInstr (k : Cond) (s : State) : exec (retIfInstr k) s = .next (retIf k s) := exec_instr (.retIf k) s

theorem exec_jumpIfInstr (k : Cond) (w : Word) (s : State) : exec (jumpIfInstr k w) s = .next (jumpIf k w s) :=
  exec_instr (.jumpIf k w) s

theorem exec_callIfInstr (k : Cond) (w : Word) (s : State) : exec (callIfInstr k w) s = .next (callIf k w s) :=
  exec_instr (.callIf k w) s

/-! ## The obligations -/

/-- Settles O33, by the two cases of the push. -/
theorem callResult : Obligations.CallResult := by
  intro x w s
  rw [exec_call, ← mask14_eq_ofNat]
  exact ⟨fun h => congrArg _ (call_of_lt w h), fun h => congrArg _ (call_of_full w h)⟩

/-- Settles O30, by the two cases of the push. -/
theorem restartResult : Obligations.RestartResult := by
  intro a s
  rw [exec_rstInstr, ← restartVector_eq_ofNat]
  exact ⟨fun h => congrArg _ (restart_of_lt a h), fun h => congrArg _ (restart_of_full a h)⟩

/-- Settles O29, by the two cases of the condition. -/
theorem conditionalReturnResult : Obligations.ConditionalReturnResult := by
  intro k s
  rw [exec_retIfInstr, exec_ret]
  exact ⟨fun h => ⟨congrArg _ (retIf_of_holds h), _, rfl⟩, fun h => congrArg _ (retIf_of_not h)⟩

/-- Settles O32, by the two cases of the condition. -/
theorem conditionalJumpResult : Obligations.ConditionalJumpResult := by
  intro k w s
  rw [exec_jumpIfInstr]
  exact ⟨fun h => congrArg _ ((jumpIf_of_holds w h).trans (jump_eq w s)), fun h => congrArg _ (jumpIf_of_not w h)⟩

/-- Settles O34, by the two cases of the condition. -/
theorem conditionalCallResult : Obligations.ConditionalCallResult := by
  intro k w s
  rw [exec_callIfInstr, exec_call]
  exact ⟨fun h => ⟨congrArg _ (callIf_of_holds w h), _, rfl⟩, fun h => congrArg _ (callIf_of_not w h)⟩

end Sys2Proof.Proofs
end

section
/-! PROOFS. 10_state.md, section 5: sequences of pushes, a pop after a push, and a return after a call. -/

namespace Sys2Proof.Proofs

open Sys2Proof.Machine Sys2Proof.Laws

/-! ## Pushes in a row (R36) -/

/-- The addresses held, oldest first. -/
def held (s : State) : List Addr := s.stk.toList.take s.sp.val

/-- A push below capacity adds its address to those held. -/
theorem held_push {s : State} (a : Addr) (h : s.sp.val < 8) : held (s.push a) = held s ++ [a] := by
  simp only [held, State.push_of_lt a h, Vector.toList_set, List.take_add_one, List.take_set]
  rw [List.set_eq_of_length_le (List.length_take_le ..)]
  simp [h]

/-- Pushes that fit are all held, in order, and none reports. -/
theorem foldl_push (l : List Addr) {s : State} (h : s.sp.val + l.length ≤ 8) :
    held (l.foldl State.push s) = held s ++ l ∧ (l.foldl State.push s).sp.val = s.sp.val + l.length ∧
      (l.foldl State.push s).diag = s.diag := by
  induction l generalizing s with
  | nil => simp
  | cons a l ih =>
    have hlt : s.sp.val < 8 := by rw [List.length_cons] at h; omega
    have hpush := State.push_of_lt a hlt
    have hsp : (s.push a).sp.val = s.sp.val + 1 := by rw [hpush]
    have hdiag : (s.push a).diag = s.diag := by rw [hpush]
    obtain ⟨hheld, hsp', hdiag'⟩ := ih (s := s.push a) (by rw [hsp]; rw [List.length_cons] at h; omega)
    refine ⟨?_, ?_, hdiag'.trans hdiag⟩
    · rw [List.foldl_cons, hheld, held_push a hlt, List.append_assoc, List.singleton_append]
    · rw [List.foldl_cons, hsp', hsp, List.length_cons]; omega

/-- A full stack holds all its slots. -/
theorem held_of_full {s : State} (h : s.sp.val = 8) : held s = s.stk.toList := by
  rw [held, h, List.take_of_length_le (by simp)]

/-! ## A pop after a push (R37) -/

/-- With room, a pop right after a push of `a` answers `a`; only the slot at sp keeps a trace of the push. -/
theorem pop_push {s : State} (a : Addr) (h : s.sp.val < 8) :
    (s.push a).pop = (a, { s with stk := s.stk.set s.sp.val a }) := by
  rw [State.push_of_lt a h, State.pop_of_pos (Nat.succ_pos _)]
  simp

/-- A return after a push of `a`, wherever pc went in between, goes to `a`. -/
theorem ret_setPc_push {s : State} (a target : Addr) (h : s.sp.val < 8) :
    ret ((s.push a).setPc target) = { s with stk := s.stk.set s.sp.val a, pc := a } := by
  rw [State.push_of_lt a h, ret_of_pos (Nat.succ_pos _)]
  simp

/-- A call, a restart and a taken conditional call push pc and go to some target. -/
theorem exec_calling {i : Instr} {s t : State}
    (hi : (∃ x w, i = .call x w) ∨ (∃ a, i = rstInstr a) ∨
      ∃ k w, i = callIfInstr k w ∧ flagValue k.flag s.flags = k.sense)
    (h : exec i s = .next t) : ∃ target, t = (s.push s.pc).setPc target := by
  rcases hi with ⟨x, w, rfl⟩ | ⟨a, rfl⟩ | ⟨k, w, rfl, hk⟩
  · rw [exec_call] at h
    exact ⟨mask14 w, (Host.Outcome.next.inj h).symm⟩
  · rw [exec_rstInstr] at h
    exact ⟨restartVector a, (Host.Outcome.next.inj h).symm⟩
  · rw [exec_callIfInstr, callIf_of_holds w hk] at h
    exact ⟨mask14 w, (Host.Outcome.next.inj h).symm⟩

/-! ## The obligations -/

/-- Settles O13: eight addresses held are all the slots, and the ninth push finds the stack full. -/
theorem eightPushesFillTheStack : Obligations.EightPushesFillTheStack := by
  intro s l a hsp hlen
  obtain ⟨hheld, hfull, hdiag⟩ := foldl_push l (s := s) (by omega)
  have hempty : held s = [] := by rw [held, hsp, List.take_zero]
  have hfull : (l.foldl State.push s).sp.val = 8 := by omega
  have hslots : (l.foldl State.push s).stk.toList = l := by
    rw [← held_of_full hfull, hheld, hempty, List.nil_append]
  rw [State.push_of_full a hfull, State.report_stk, State.report_sp, State.report_diag, hdiag]
  exact ⟨hfull, hslots, rfl, hslots, hfull, rfl⟩

/-- Settles O14, by the state after the pop. -/
theorem popUndoesPush : Obligations.PopUndoesPush := by
  intro s a h
  rw [pop_push a h]
  refine ⟨rfl, rfl, fun i hi => ?slots, rfl⟩
  exact Vector.getElem_set_ne h i.isLt (Ne.symm hi)

/-- Settles O37: the call pushed pc, and the return pops it. -/
theorem returnComesBackAfterTheCall : Obligations.ReturnComesBackAfterTheCall := by
  intro s t i y hsp hi h
  obtain ⟨target, rfl⟩ := exec_calling hi h
  rw [exec_ret, ret_setPc_push s.pc target hsp]
  exact ⟨_, rfl, rfl, rfl, rfl, rfl, rfl, rfl, rfl⟩

end Sys2Proof.Proofs
end

section
/-! PROOFS. 20_memory.md, 10_state.md: the canonical form of memory, its bounds, the M pointer and construction. -/

namespace Sys2Proof.Proofs

open Sys2Proof.Machine

/-! ## A canonical memory and its bytes (20_memory.md R50) -/

theorem lookup_cons_self (k : Nat) (v : Byte) (m : Memory) : Memory.lookup ((k, v) :: m) k = v := if_pos rfl

theorem lookup_cons_ne {i k : Nat} (h : k ≠ i) (v : Byte) (m : Memory) :
    Memory.lookup ((k, v) :: m) i = m.lookup i := if_neg h

/-- Below the first index of a canonical form nothing is listed. -/
theorem lookup_of_lt_wfFrom {lo i : Nat} {m : Memory} (hm : Memory.wfFrom lo m = true) (hi : i < lo) :
    m.lookup i = Config.unlistedByte := by
  induction m generalizing lo with
  | nil => rfl
  | cons c m ih =>
    obtain ⟨k, v⟩ := c
    obtain ⟨hlo, -, -, hm⟩ := Memory.wfFrom_cons.mp hm
    rw [lookup_cons_ne (by omega), ih hm (by omega)]

/-- The first listed byte is no unlisted one, so another canonical form that reads the same starts no later. -/
theorem first_index_le {lo lo' k k' : Nat} {v v' : Byte} {m m' : Memory}
    (hm : Memory.wfFrom lo ((k, v) :: m) = true) (hm' : Memory.wfFrom lo' ((k', v') :: m') = true)
    (h : Memory.lookup ((k, v) :: m) k = Memory.lookup ((k', v') :: m') k) : k' ≤ k := by
  obtain ⟨-, -, hv, -⟩ := Memory.wfFrom_cons.mp hm
  by_contra hlt
  rw [lookup_cons_self] at h
  obtain ⟨-, hk', hv', hrest⟩ := Memory.wfFrom_cons.mp hm'
  have hbelow : Memory.wfFrom k' ((k', v') :: m') = true := Memory.wfFrom_cons.mpr ⟨le_rfl, hk', hv', hrest⟩
  exact hv (h.trans (lookup_of_lt_wfFrom hbelow (by omega)))

/-- Two canonical forms that read the same at every index in bounds are the same list. -/
theorem eq_of_lookup_eq {lo lo' : Nat} {m n : Memory} (hm : Memory.wfFrom lo m = true)
    (hn : Memory.wfFrom lo' n = true) (h : ∀ i < Config.memSize, m.lookup i = n.lookup i) : m = n := by
  induction m generalizing lo lo' n with
  | nil =>
    cases n with
    | nil => rfl
    | cons c n =>
      obtain ⟨k, v⟩ := c
      obtain ⟨-, hk, hv, -⟩ := Memory.wfFrom_cons.mp hn
      have hread := h k hk
      rw [lookup_cons_self] at hread
      exact absurd hread.symm hv
  | cons c m ih =>
    obtain ⟨k, v⟩ := c
    obtain ⟨-, hk, hv, hmrest⟩ := Memory.wfFrom_cons.mp hm
    cases n with
    | nil =>
      have hread := h k hk
      rw [lookup_cons_self] at hread
      exact absurd hread hv
    | cons d n =>
      obtain ⟨k', v'⟩ := d
      obtain ⟨-, hk', -, hnrest⟩ := Memory.wfFrom_cons.mp hn
      obtain rfl : k = k' := Nat.le_antisymm (first_index_le hn hm (h k' hk').symm) (first_index_le hm hn (h k hk))
      have hv : v = v' := by simpa [lookup_cons_self] using h k hk
      have hrest : m = n := by
        refine ih hmrest hnrest fun i hi => ?_
        rcases Nat.lt_or_ge k i with hki | hik
        · simpa [lookup_cons_ne (Nat.ne_of_lt hki)] using h i hi
        · rw [lookup_of_lt_wfFrom hmrest (by omega), lookup_of_lt_wfFrom hnrest (by omega)]
      rw [hv, hrest]

/-! ## Bounds (20_memory.md R54) -/

theorem readIndex_of_ge (m : Memory) {i : Nat} (h : 16384 ≤ i) : m.readIndex i = .error .outOfRangeMemoryAccess :=
  if_neg (Nat.not_lt.mpr h)

theorem writeIndex_of_ge (m : Memory) {i : Nat} (v : Byte) (h : 16384 ≤ i) :
    m.writeIndex i v = .error .outOfRangeMemoryAccess :=
  if_neg (Nat.not_lt.mpr h)

/-! ## The obligations -/

/-- Settles O4: every index in bounds is that of an address. -/
theorem canonicalMemoryIsDeterminedByItsBytes : Obligations.CanonicalMemoryIsDeterminedByItsBytes := by
  intro m n hm hn h
  refine eq_of_lookup_eq hm hn fun i hi => ?_
  have hread := h (BitVec.ofNat 14 i)
  have hindex : (BitVec.ofNat 14 i).toNat = i := Nat.mod_eq_of_lt hi
  simpa only [Memory.read, hindex] using hread

/-- Settles O2: nothing is listed. -/
theorem resetMemoryIsCanonical : Obligations.ResetMemoryIsCanonical := Memory.wf_nil

/-- Settles O6, by the bound of 16384 that every 14-bit address is below. -/
theorem unmaskedIndexFaults : Obligations.UnmaskedIndexFaults :=
  ⟨fun m _ v h => ⟨readIndex_of_ge m h, writeIndex_of_ge m v h⟩,
    fun m a v => ⟨m.readIndex_toNat a, m.writeIndex_toNat a v⟩⟩

/-- Settles O9: the pointer is that of the cells H and L of whichever state it is read in. -/
theorem mPointerIsDerivedFromHAndL : Obligations.MPointerIsDerivedFromHAndL :=
  ⟨maddr_toNat, fun s v => ⟨maddr_toNat (s.setReg .h v), maddr_toNat (s.setReg .l v)⟩, fun _ _ _ => rfl⟩

/-- Settles O1: construction gives every item its value, whatever the memory. -/
theorem constructionLeavesTheResetValues : Obligations.ConstructionLeavesTheResetValues := by
  refine ⟨fun mem0 => ⟨fun r => ?cells, rfl, rfl, fun i => ?slots, rfl, rfl, rfl, rfl, ?pointer⟩, rfl⟩
  case cells => cases r <;> rfl
  case slots => exact Vector.getElem_replicate i.isLt
  case pointer => exact (by decide : (0#8).extractLsb' 0 6 ++ 0#8 = 0#14)

end Sys2Proof.Proofs
end

section
/-! PROOFS. What each action leaves unchanged: the frames of the instruction families. -/

namespace Sys2Proof.Proofs

open Sys2Proof.Machine Sys2Proof.Safety Sys2Proof.Laws

/-- The one next state of the instruction of a shape. -/
theorem eq_run_of_exec (f : Shape) {s t : State} (h : exec f.instr s = .next t) : t = f.run s :=
  (Host.Outcome.next.inj ((exec_instr f s).symm.trans h)).symm

/-! ## Actions on one cell and the flags -/

/-- `t` is `s` after a write of the cell `r` and of the flags. -/
def WritesCell (r : Reg) (s t : State) : Prop := ∃ v f, t = { s.setReg r v with flags := f }

theorem writesCell_incReg (r : Reg) (s : State) : WritesCell r s (incReg r s) := ⟨_, _, rfl⟩

theorem writesCell_decReg (r : Reg) (s : State) : WritesCell r s (decReg r s) := ⟨_, _, rfl⟩

theorem writesCell_aluExec (p : AluOp) (v : Byte) (form : AluForm) (s : State) :
    WritesCell .a s (aluExec p v form s) := ⟨_, _, rfl⟩

theorem writesCell_rotateAcc (k : Rotate) (s : State) : WritesCell .a s (rotateAcc k s) := ⟨_, _, rfl⟩

theorem writesCell_setReg (r : Reg) (v : Byte) (s : State) : WritesCell r s (s.setReg r v) :=
  ⟨v, s.flags, by rw [← s.setReg_flags r v]⟩

theorem aluExec_cmp_regs (v : Byte) (form : AluForm) (s : State) : (aluExec .cmp v form s).regs = s.regs := by
  rw [aluExec_cmp]

/-! ## What a family leaves: the control state of a computation, the data of a transfer -/

/-- The program counter, the stack, the latch and the diagnostics are the same. -/
structure SameControl (s t : State) : Prop where
  pc : t.pc = s.pc
  stk : t.stk = s.stk
  sp : t.sp = s.sp
  halted : t.halted = s.halted
  diag : t.diag = s.diag

/-- The registers, the flags, the latch and memory are the same. -/
structure SameData (s t : State) : Prop where
  regs : t.regs = s.regs
  flags : t.flags = s.flags
  halted : t.halted = s.halted
  mem : t.mem = s.mem

section

variable {r : Reg} {s t : State}

theorem WritesCell.sameControl (h : WritesCell r s t) : SameControl s t := by
  obtain ⟨v, f, rfl⟩ := h
  constructor <;> simp

theorem WritesCell.mem (h : WritesCell r s t) : t.mem = s.mem := by
  obtain ⟨v, f, rfl⟩ := h
  exact s.setReg_mem r v

theorem WritesCell.reg_ne (h : WritesCell r s t) {q : Reg} (hq : q ≠ r) : t.reg q = s.reg q := by
  obtain ⟨v, f, rfl⟩ := h
  exact (State.reg_congr _ rfl q).trans (s.reg_setReg_ne hq v)

end

theorem sameControl_memWrite (s : State) (a : Addr) (v : Byte) : SameControl s (s.memWrite a v) :=
  ⟨rfl, rfl, rfl, rfl, rfl⟩

theorem sameControl_writeDst (s : State) (o : Operand) (v : Byte) : SameControl s (s.writeDst o v) := by
  cases o with
  | reg r => exact (writesCell_setReg r v s).sameControl
  | m => exact sameControl_memWrite s s.maddr v

theorem sameData_setPc (s : State) (target : Addr) : SameData s (s.setPc target) := ⟨rfl, rfl, rfl, rfl⟩

theorem sameData_ret (s : State) : SameData s (ret s) := by constructor <;> simp [ret]

theorem sameData_push_setPc (s : State) (a target : Addr) : SameData s ((s.push a).setPc target) := by
  constructor <;> simp

/-- A conditional action that is not taken changes nothing. -/
theorem sameData_ite {c : Prop} [Decidable c] {s t : State} (h : SameData s t) : SameData s (if c then t else s) := by
  split
  · exact h
  · exact ⟨rfl, rfl, rfl, rfl⟩

/-- The computations: arithmetic, moves, stores, and the placeholder. -/
def isComputation : Shape → Bool
  | .inr _ | .dcr _ | .aluImm _ _ | .alu _ _ | .rotate _ => true
  | .mvi _ _ | .mov _ _ | .movFromM _ | .movToM _ | .iop _ => true
  | _ => false

/-- The transfers of control, conditional or not. -/
def isTransfer : Shape → Bool
  | .ret _ | .retIf _ | .rst _ | .jmp _ _ | .jumpIf _ _ | .call _ _ | .callIf _ _ => true
  | _ => false

theorem sameControl_run {f : Shape} (hf : isComputation f = true) (s : State) : SameControl s (f.run s) := by
  cases f with
  | inr r => exact (writesCell_incReg r.toReg s).sameControl
  | dcr r => exact (writesCell_decReg r.toReg s).sameControl
  | aluImm p v => exact (writesCell_aluExec p v .imm s).sameControl
  | alu p o => exact (writesCell_aluExec p (s.readSrc o) .regmem s).sameControl
  | rotate k => exact (writesCell_rotateAcc k s).sameControl
  | mvi o v => exact sameControl_writeDst s o v
  | mov r q => exact (writesCell_setReg r (s.reg q) s).sameControl
  | movFromM r => exact (writesCell_setReg r (s.readSrc .m) s).sameControl
  | movToM r => exact sameControl_memWrite s s.maddr (s.reg r)
  | iop x => exact ⟨rfl, rfl, rfl, rfl, rfl⟩
  | _ => cases hf

theorem sameData_run {f : Shape} (hf : isTransfer f = true) (s : State) : SameData s (f.run s) := by
  cases f with
  | ret x => exact sameData_ret s
  | retIf k => exact sameData_ite (sameData_ret s)
  | rst a => exact sameData_push_setPc s s.pc (restartVector a)
  | jmp x w => exact sameData_setPc s (mask14 w)
  | jumpIf k w => exact sameData_ite (sameData_setPc s (mask14 w))
  | call x w => exact sameData_push_setPc s s.pc (mask14 w)
  | callIf k w => exact sameData_ite (sameData_push_setPc s s.pc (mask14 w))
  | _ => cases hf

/-! ## Slots -/

/-- A push reaches no slot but the one at sp. -/
theorem push_stk_ne (s : State) (a : Addr) {j : Fin 8} (hj : j.val ≠ s.sp.val) : (s.push a).stk[j] = s.stk[j] := by
  rcases s.push_cases a with ⟨hlt, hpush⟩ | ⟨-, hpush⟩
  · rw [hpush]
    exact Vector.getElem_set_ne hlt j.isLt (Ne.symm hj)
  · rw [hpush, State.report_stk]

theorem call_stk (w : Word) (s : State) : (call w s).stk = (s.push s.pc).stk := rfl

theorem ret_stk (s : State) : (ret s).stk = s.stk := State.pop_stk s

/-! ## The obligations -/

/-- Settles O38: each is a write of one cell and the flags; compare writes the old A, and INR, DCR and
CPI the old carry. -/
theorem arithmeticFrame : Obligations.ArithmeticFrame := by
  refine fun s t => ⟨fun i r hi h => ?frame, fun i hi h => ?compare, fun i hi h => ?carry⟩
  case frame =>
    have hcell : WritesCell r s t := by
      rcases hi with ⟨n, rfl | rfl, rfl⟩ | ⟨p, ⟨v, rfl⟩ | ⟨o, rfl⟩, rfl⟩ | ⟨k, rfl, rfl⟩
      · exact eq_run_of_exec (.inr n) h ▸ writesCell_incReg n.toReg s
      · exact eq_run_of_exec (.dcr n) h ▸ writesCell_decReg n.toReg s
      · exact eq_run_of_exec (.aluImm p v) h ▸ writesCell_aluExec p v .imm s
      · exact eq_run_of_exec (.alu p o) h ▸ writesCell_aluExec p (s.readSrc o) .regmem s
      · exact eq_run_of_exec (.rotate k) h ▸ writesCell_rotateAcc k s
    obtain ⟨hpc, hstk, hsp, hhalted, hdiag⟩ := hcell.sameControl
    exact ⟨fun q hq => hcell.reg_ne hq, hpc, hstk, hsp, hhalted, hdiag, fun a => congrArg (Memory.read · a) hcell.mem⟩
  case compare =>
    rcases hi with ⟨v, rfl⟩ | ⟨o, rfl⟩
    · rw [eq_run_of_exec (.aluImm .cmp v) h]
      exact aluExec_cmp_regs v .imm s
    · rw [eq_run_of_exec (.alu .cmp o) h]
      exact aluExec_cmp_regs (s.readSrc o) .regmem s
  case carry =>
    rcases hi with ⟨n, rfl | rfl⟩ | ⟨v, rfl⟩
    · rw [eq_run_of_exec (.inr n) h]
      exact setSZP_fc _ s.flags
    · rw [eq_run_of_exec (.dcr n) h]
      exact setSZP_fc _ s.flags
    · rw [eq_run_of_exec (.aluImm .cmp v) h]
      exact congrArg (·.flags.fc) (aluExec_cmp v .imm s)

/-- Settles O39: each is a write of one cell. -/
theorem loadFrame : Obligations.LoadFrame := by
  intro s t i r hi h
  obtain ⟨v, rfl⟩ : ∃ v, t = s.setReg r v := by
    rcases hi with ⟨v, rfl⟩ | ⟨q, rfl⟩ | rfl
    · exact ⟨v, eq_run_of_exec (.mvi (.reg r) v) h⟩
    · exact ⟨s.reg q, eq_run_of_exec (.mov r q) h⟩
    · exact ⟨s.readSrc .m, eq_run_of_exec (.movFromM r) h⟩
  refine ⟨fun q hq => s.reg_setReg_ne hq v, ?frame⟩
  simp

/-- Settles O40: each is a write to memory at MAddr(). -/
theorem storeFrame : Obligations.StoreFrame := by
  intro s t i v hi h
  obtain rfl : t = s.memWrite s.maddr v := by
    rcases hi with rfl | ⟨r, rfl, rfl⟩
    · exact eq_run_of_exec (.mvi .m v) h
    · exact eq_run_of_exec (.movToM r) h
  refine ⟨memRead_memWrite_self s s.maddr v, fun a ha => memRead_memWrite_ne s ha v, ?frame⟩
  simp

/-- Settles O41: no transfer changes data; a jump writes pc alone, a return reaches no slot, a call only the
one at sp. -/
theorem transferFrame : Obligations.TransferFrame := by
  refine fun s t i h => ⟨fun hi => ?jump, fun hi => ?ret, fun hi => ?call⟩
  case jump =>
    have hpc : ∃ target, t = s.setPc target := by
      rcases hi with ⟨x, w, rfl⟩ | ⟨k, w, rfl⟩
      · exact ⟨mask14 w, eq_run_of_exec (.jmp x w) h⟩
      · exact ⟨_, (eq_run_of_exec (.jumpIf k w) h).trans (jumpIf_eq w)⟩
    obtain ⟨target, rfl⟩ := hpc
    exact ⟨rfl, rfl, rfl, rfl, rfl, rfl, fun _ => rfl⟩
  case ret =>
    have hret : SameData s t ∧ t.stk = s.stk := by
      rcases hi with ⟨x, rfl⟩ | ⟨k, rfl⟩
      · rw [eq_run_of_exec (.ret x) h]
        exact ⟨sameData_run rfl s, ret_stk s⟩
      · rw [eq_run_of_exec (.retIf k) h]
        refine ⟨sameData_run rfl s, ?_⟩
        by_cases hk : flagValue k.flag s.flags = k.sense
        · exact (congrArg State.stk (retIf_of_holds hk)).trans (ret_stk s)
        · exact congrArg State.stk (retIf_of_not hk)
    obtain ⟨⟨hregs, hflags, hhalted, hmem⟩, hstk⟩ := hret
    exact ⟨hregs, hflags, hhalted, hstk, fun a => congrArg (Memory.read · a) hmem⟩
  case call =>
    have hcall : SameData s t ∧ (t.stk = (s.push s.pc).stk ∨ t = s) := by
      rcases hi with ⟨x, w, rfl⟩ | ⟨k, w, rfl⟩ | ⟨a, rfl⟩
      · rw [eq_run_of_exec (.call x w) h]
        exact ⟨sameData_run rfl s, .inl rfl⟩
      · rw [eq_run_of_exec (.callIf k w) h]
        refine ⟨sameData_run rfl s, ?_⟩
        by_cases hk : flagValue k.flag s.flags = k.sense
        · exact .inl ((congrArg State.stk (callIf_of_holds w hk)).trans (call_stk w s))
        · exact .inr (callIf_of_not w hk)
      · rw [eq_run_of_exec (.rst a) h]
        exact ⟨sameData_run rfl s, .inl rfl⟩
    obtain ⟨⟨hregs, hflags, hhalted, hmem⟩, hstk⟩ := hcall
    refine ⟨hregs, hflags, hhalted, fun j hj => ?_, fun a => congrArg (Memory.read · a) hmem⟩
    rcases hstk with hstk | rfl
    · rw [hstk, push_stk_ne s s.pc hj]
    · rfl

end Sys2Proof.Proofs
end

section
/-! PROOFS. Whole-machine rules over every instruction: who changes a flag, a register, the stack, and what is
reported. -/

namespace Sys2Proof.Proofs

open Sys2Proof.Machine Sys2Proof.Laws

/-! ## Flags (10_state.md R33, R34) -/

/-- The shapes that write sign, zero and parity. -/
def writesFlags : Shape → Bool
  | .inr _ | .dcr _ | .aluImm _ _ | .alu _ _ | .rotate _ => true
  | _ => false

theorem writeDst_flags (s : State) (o : Operand) (v : Byte) : (s.writeDst o v).flags = s.flags := by
  cases o <;> simp

theorem run_flags {f : Shape} (hf : writesFlags f = false) (s : State) : (f.run s).flags = s.flags := by
  cases f with
  | inr _ | dcr _ | aluImm _ _ | alu _ _ | rotate _ => cases hf
  | mvi o v => exact writeDst_flags s o v
  | mov r q => exact s.setReg_flags r (s.reg q)
  | movFromM r => exact s.setReg_flags r (s.readSrc .m)
  | movToM _ | hlt _ | unk _ | iop _ => rfl
  | ret _ | retIf _ | rst _ | jmp _ _ | jumpIf _ _ | call _ _ | callIf _ _ => exact (sameData_run rfl s).flags

theorem aluImmediate_cmp_fc (v : Byte) (s : State) : (aluImmediate .cmp v s).flags.fc = s.flags.fc :=
  congrArg (·.flags.fc) (aluExec_cmp v .imm s)

/-! ## Registers (10_state.md R20) -/

/-- The cell an ALU operation stores in. -/
def aluDestination (p : AluOp) : Option Reg := if p = .cmp then none else some .a

/-- The cell a shape names as its destination, if any. -/
def destination : Shape → Option Reg
  | .inr n | .dcr n => some n.toReg
  | .aluImm p _ | .alu p _ => aluDestination p
  | .rotate _ => some .a
  | .mvi (.reg r) _ | .mov r _ | .movFromM r => some r
  | _ => none

theorem aluDestination_eq_some {p : AluOp} {r : Reg} : aluDestination p = some r ↔ p ≠ .cmp ∧ r = .a := by
  by_cases hp : p = .cmp <;> simp [aluDestination, hp, eq_comm]

theorem reg_aluExec_ne {p : AluOp} {r : Reg} (hr : aluDestination p ≠ some r) (v : Byte) (form : AluForm) (s : State) :
    (aluExec p v form s).reg r = s.reg r := by
  by_cases hp : p = .cmp
  · rw [hp]
    exact s.reg_congr (aluExec_cmp_regs v form s) r
  · exact (writesCell_aluExec p v form s).reg_ne fun h => hr (aluDestination_eq_some.mpr ⟨hp, h⟩)

/-- A cell that is not the destination keeps its value. -/
theorem run_reg_ne {f : Shape} {r : Reg} (hr : destination f ≠ some r) (s : State) : (f.run s).reg r = s.reg r := by
  cases f with
  | inr n => exact (writesCell_incReg n.toReg s).reg_ne fun h => hr (congrArg some h.symm)
  | dcr n => exact (writesCell_decReg n.toReg s).reg_ne fun h => hr (congrArg some h.symm)
  | aluImm p v => exact reg_aluExec_ne hr v .imm s
  | alu p o => exact reg_aluExec_ne hr (s.readSrc o) .regmem s
  | rotate k => exact (writesCell_rotateAcc k s).reg_ne fun h => hr (congrArg some h.symm)
  | mvi o v =>
    cases o with
    | reg q => exact s.reg_setReg_ne (fun h => hr (congrArg some h.symm)) v
    | m => exact s.reg_congr rfl r
  | mov q q' => exact s.reg_setReg_ne (fun h => hr (congrArg some h.symm)) (s.reg q')
  | movFromM q => exact s.reg_setReg_ne (fun h => hr (congrArg some h.symm)) (s.readSrc .m)
  | movToM _ | hlt _ | unk _ | iop _ => exact s.reg_congr rfl r
  | ret _ | retIf _ | rst _ | jmp _ _ | jumpIf _ _ | call _ _ | callIf _ _ =>
    exact s.reg_congr (sameData_run rfl s).regs r

/-! ## The stack (10_state.md R35 to R38) -/

/-- The shapes that push or pop, by the flags a condition reads. -/
def usesStack : Shape → Flags → Bool
  | .call _ _, _ | .rst _, _ | .ret _, _ => true
  | .callIf k _, fl | .retIf k, fl => condHolds k fl
  | _, _ => false

theorem run_stack {f : Shape} {s : State} (hf : usesStack f s.flags = false) :
    (f.run s).stk = s.stk ∧ (f.run s).sp = s.sp := by
  cases f with
  | call _ _ | rst _ | ret _ => cases hf
  | callIf k w =>
    have hrun : callIf k w s = s := if_neg (Bool.eq_false_iff.mp hf)
    exact ⟨congrArg State.stk hrun, congrArg State.sp hrun⟩
  | retIf k =>
    have hrun : retIf k s = s := if_neg (Bool.eq_false_iff.mp hf)
    exact ⟨congrArg State.stk hrun, congrArg State.sp hrun⟩
  | jumpIf k w =>
    have hrun : (Shape.jumpIf k w).run s = s.setPc _ := jumpIf_eq w
    rw [hrun]
    exact ⟨rfl, rfl⟩
  | jmp _ _ | hlt _ | unk _ => exact ⟨rfl, rfl⟩
  | inr _ | dcr _ | aluImm _ _ | alu _ _ | rotate _ | mvi _ _ | mov _ _ | movFromM _ | movToM _ | iop _ =>
    exact ⟨(sameControl_run rfl s).stk, (sameControl_run rfl s).sp⟩

/-! ## Diagnostics (60_exceptions.md R211 to R213) -/

/-- What a push reports. -/
def overflow (s : State) : List Diagnostic := if s.sp.val = 8 then [.stackOverflow] else []

/-- What a pop reports. -/
def underflow (s : State) : List Diagnostic := if s.sp.val = 0 then [.stackUnderflow] else []

/-- What the action of a shape reports. -/
def emitted : Shape → State → List Diagnostic
  | .unk op, s => [.unknownOpcode op (s.pc - 1#14)]
  | .call _ _, s | .rst _, s => overflow s
  | .callIf k _, s => if condHolds k s.flags then overflow s else []
  | .ret _, s => underflow s
  | .retIf k, s => if condHolds k s.flags then underflow s else []
  | _, _ => []

theorem push_diag (s : State) (a : Addr) : (s.push a).diag = s.diag ++ overflow s := by
  rcases s.push_cases a with ⟨hlt, hpush⟩ | ⟨hfull, hpush⟩
  · rw [hpush, overflow, if_neg (Nat.ne_of_lt hlt), List.append_nil]
  · rw [hpush, overflow, if_pos hfull, State.report_diag]

theorem ret_diag (s : State) : (ret s).diag = s.diag ++ underflow s := by
  rcases ret_cases s with ⟨hpos, hret⟩ | ⟨hempty, hret⟩
  · rw [hret, underflow, if_neg (Nat.ne_of_gt hpos), List.append_nil]
  · rw [hret, underflow, if_pos hempty, State.report_diag]

/-- A conditional action that is not taken reports nothing. -/
theorem diag_ite {c : Prop} [Decidable c] {s t : State} {d : List Diagnostic} (h : t.diag = s.diag ++ d) :
    (if c then t else s).diag = s.diag ++ if c then d else [] := by
  split
  · exact h
  · exact (List.append_nil _).symm

theorem run_diag (f : Shape) (s : State) : (f.run s).diag = s.diag ++ emitted f s := by
  cases f with
  | unk op => rfl
  | call _ _ | rst _ => exact push_diag s s.pc
  | callIf k w => exact diag_ite (push_diag s s.pc)
  | ret x => exact ret_diag s
  | retIf k => exact diag_ite (ret_diag s)
  | hlt _ | jmp _ _ => exact (List.append_nil _).symm
  | jumpIf k w =>
    have hrun : (Shape.jumpIf k w).run s = s.setPc _ := jumpIf_eq w
    rw [hrun]
    exact (List.append_nil _).symm
  | inr _ | dcr _ | aluImm _ _ | alu _ _ | rotate _ | mvi _ _ | mov _ _ | movFromM _ | movToM _ | iop _ =>
    exact (sameControl_run rfl s).diag.trans (List.append_nil _).symm

/-- An action that does not use the stack reports no stack diagnostic. -/
theorem not_mem_emitted {f : Shape} {s : State} (hf : usesStack f s.flags = false) :
    .stackOverflow ∉ emitted f s ∧ .stackUnderflow ∉ emitted f s := by
  cases f with
  | call _ _ | rst _ | ret _ => cases hf
  | callIf k w =>
    have hk : condHolds k s.flags = false := hf
    simp [emitted, hk]
  | retIf k =>
    have hk : condHolds k s.flags = false := hf
    simp [emitted, hk]
  | _ => simp [emitted]

/-! ## The obligations -/

/-- Settles O42, by the shapes that write flags; INR, DCR and CPI keep carry. -/
theorem onlyAluInstructionsChangeFlags : Obligations.OnlyAluInstructionsChangeFlags := by
  intro s t i h
  obtain ⟨f, rfl, rfl⟩ := exec_cases h
  by_cases hf : writesFlags f = false
  · rw [run_flags hf s]
    exact ⟨fun hne => absurd rfl hne, fun hne => absurd rfl hne⟩
  cases f with
  | inr r => exact ⟨fun _ => .inl ⟨r, .inl rfl⟩, fun hne => absurd (setSZP_fc _ s.flags) hne⟩
  | dcr r => exact ⟨fun _ => .inl ⟨r, .inr rfl⟩, fun hne => absurd (setSZP_fc _ s.flags) hne⟩
  | aluImm p v =>
    refine ⟨fun _ => .inr (.inl ⟨p, v, rfl⟩), fun hne => .inl ⟨p, v, ?_, rfl⟩⟩
    rintro rfl
    exact hne (aluImmediate_cmp_fc v s)
  | alu p o => exact ⟨fun _ => .inr (.inr (.inl ⟨p, o, rfl⟩)), fun _ => .inr (.inl ⟨p, o, rfl⟩)⟩
  | rotate k => exact ⟨fun _ => .inr (.inr (.inr ⟨k, rfl⟩)), fun _ => .inr (.inr ⟨k, rfl⟩)⟩
  | _ => exact absurd rfl hf

/-- Settles O43: the register that changed is the destination the shape names. -/
theorem registerChangesNameTheRegister : Obligations.RegisterChangesNameTheRegister := by
  intro s t i r h hne
  obtain ⟨f, rfl, rfl⟩ := exec_cases h
  have hr : destination f = some r := by
    by_contra hr
    exact hne (run_reg_ne hr s)
  cases f with
  | mvi o v =>
    cases o with
    | reg q =>
      obtain rfl := Option.some.inj hr
      exact .inl ⟨v, rfl⟩
    | m => cases hr
  | mov q q' =>
    obtain rfl := Option.some.inj hr
    exact .inr (.inl ⟨q', rfl⟩)
  | movFromM q =>
    obtain rfl := Option.some.inj hr
    exact .inr (.inr (.inl rfl))
  | inr n => exact .inr (.inr (.inr (.inl ⟨n, Option.some.inj hr, .inl rfl⟩)))
  | dcr n => exact .inr (.inr (.inr (.inl ⟨n, Option.some.inj hr, .inr rfl⟩)))
  | rotate k => exact .inr (.inr (.inr (.inr ⟨(Option.some.inj hr).symm, .inl ⟨k, rfl⟩⟩)))
  | aluImm p v =>
    obtain ⟨hp, rfl⟩ := aluDestination_eq_some.mp hr
    exact .inr (.inr (.inr (.inr ⟨rfl, .inr ⟨p, hp, .inl ⟨v, rfl⟩⟩⟩)))
  | alu p o =>
    obtain ⟨hp, rfl⟩ := aluDestination_eq_some.mp hr
    exact .inr (.inr (.inr (.inr ⟨rfl, .inr ⟨p, hp, .inr ⟨o, rfl⟩⟩⟩)))
  | _ => cases hr

/-- Settles O44: an action that does not use the stack leaves slots and pointer and reports no stack diagnostic. -/
theorem onlyCallsAndReturnsUseTheStack : Obligations.OnlyCallsAndReturnsUseTheStack := by
  intro s t i h hchange
  obtain ⟨f, rfl, rfl⟩ := exec_cases h
  have hf : usesStack f s.flags = true := by
    by_contra hf
    rw [Bool.not_eq_true] at hf
    obtain ⟨hstk, hsp⟩ := run_stack hf
    obtain ⟨hover, hunder⟩ := not_mem_emitted hf
    rw [run_diag, List.append_right_inj, List.append_right_inj] at hchange
    rcases hchange with hne | hne | hd | hd
    · exact hne hstk
    · exact hne hsp
    · exact hover (hd ▸ List.mem_singleton_self _)
    · exact hunder (hd ▸ List.mem_singleton_self _)
  cases f with
  | call x w => exact .inl ⟨x, w, rfl⟩
  | rst a => exact .inr (.inl ⟨a, rfl⟩)
  | ret x => exact .inr (.inr (.inl ⟨x, rfl⟩))
  | callIf k w => exact .inr (.inr (.inr (.inl ⟨k, w, rfl, condHolds_iff.mp hf⟩)))
  | retIf k => exact .inr (.inr (.inr (.inr ⟨k, rfl, condHolds_iff.mp hf⟩)))
  | _ => cases hf

end Sys2Proof.Proofs
end

section
/-! PROOFS. 70_reset_and_hazards.md R240, R247: one step by the shape at pc, what it does to memory and
to the latch. -/

namespace Sys2Proof.Proofs

open Sys2Proof.Machine Sys2Proof.Laws

/-! ## One step, by the shape whose bytes stand at pc -/

/-- The state that the action of the shape `f` finds: the latch cleared, the output empty, pc past the bytes of `f`. -/
def fetched (f : Shape) (s : State) : State :=
  s.beginStep.setPc (s.pc + BitVec.ofNat 14 (f.operandBytes.length + 1))

/-- The inversion lemma of `step` with the bytes at pc: they are those of a well-formed shape, and its action ran. -/
theorem step_shape {s t : State} (h : step s = .next t) :
    ∃ (f : Shape) (rest : List Byte), f.wf = true ∧ fetchWindow s = f.opcode :: (f.operandBytes ++ rest) ∧
      t = f.run (fetched f s) := by
  obtain ⟨f, rest, hd, -, ht⟩ := step_cases h
  obtain ⟨g, hwf, hinstr, hwindow⟩ := decode_cases hd
  obtain rfl := instr_injective hinstr
  have hlen : 3 - rest.length = f.operandBytes.length + 1 := by
    have hthree := congrArg List.length hwindow
    simp only [fetchWindow, List.length_cons, List.length_nil, List.length_append] at hthree
    omega
  rw [hlen] at ht
  exact ⟨f, rest, hwf, hwindow, ht⟩

/-- The byte at pc is the opcode byte of the shape. -/
theorem memRead_pc_of_window {s : State} {f : Shape} {bs : List Byte} (h : fetchWindow s = f.opcode :: bs) :
    s.memRead s.pc = f.opcode :=
  (List.cons.inj h).1

/-- A shape without operand bytes is told by its opcode byte. -/
theorem eq_of_opcode_eq {f g : Shape} (hf : f.wf = true) (hg : g.wf = true) (hnone : g.operandBytes = [])
    (hop : f.opcode = g.opcode) : f = g := by
  have hlen : f.operandBytes.length + 1 = g.operandBytes.length + 1 := by
    rw [← instrLength_opcode hf, ← instrLength_opcode hg, hop]
  have hnone' : f.operandBytes = [] := by simpa [hnone] using hlen
  have hdecode := decode_of_operandBytes hf hnone' []
  rw [hop, decode_of_operandBytes hg hnone []] at hdecode
  exact instr_injective (Prod.mk.inj (Except.ok.inj hdecode)).1.symm

theorem opcode_mem_haltBytes_iff {f : Shape} (hf : f.wf = true) : f.opcode ∈ haltBytes ↔ ∃ op, f = .hlt op := by
  constructor
  · intro hop
    exact ⟨f.opcode, eq_of_opcode_eq hf (g := .hlt f.opcode) (List.contains_iff_mem.mpr hop) rfl rfl⟩
  · rintro ⟨op, rfl⟩
    exact List.contains_iff_mem.mp hf

theorem opcode_mem_unknownBytes_iff {f : Shape} (hf : f.wf = true) : f.opcode ∈ unknownBytes ↔ ∃ op, f = .unk op := by
  constructor
  · intro hop
    exact ⟨f.opcode, eq_of_opcode_eq hf (g := .unk f.opcode) (List.contains_iff_mem.mpr hop) rfl rfl⟩
  · rintro ⟨op, rfl⟩
    exact List.contains_iff_mem.mp hf

/-! ## Memory (20_memory.md R53, R57) -/

/-- The two shapes that store. -/
def isStore : Shape → Bool
  | .mvi .m _ | .movToM _ => true
  | _ => false

/-- An action leaves memory, or is the write of one byte at MAddr(). -/
theorem run_mem_cases (f : Shape) (s : State) :
    (f.run s).mem = s.mem ∨ isStore f = true ∧ ∃ v, f.run s = s.memWrite s.maddr v := by
  cases f with
  | mvi o v =>
    cases o with
    | reg r => exact .inl (s.setReg_mem r v)
    | m => exact .inr ⟨rfl, v, rfl⟩
  | movToM r => exact .inr ⟨rfl, s.reg r, rfl⟩
  | inr n => exact .inl (writesCell_incReg n.toReg s).mem
  | dcr n => exact .inl (writesCell_decReg n.toReg s).mem
  | aluImm p v => exact .inl (writesCell_aluExec p v .imm s).mem
  | alu p o => exact .inl (writesCell_aluExec p (s.readSrc o) .regmem s).mem
  | rotate k => exact .inl (writesCell_rotateAcc k s).mem
  | mov r q => exact .inl (s.setReg_mem r (s.reg q))
  | movFromM r => exact .inl (s.setReg_mem r (s.readSrc .m))
  | hlt _ | unk _ | iop _ => exact .inl rfl
  | ret _ | retIf _ | rst _ | jmp _ _ | jumpIf _ _ | call _ _ | callIf _ _ => exact .inl (sameData_run rfl s).mem

theorem wf_mem_run (f : Shape) {s : State} (hs : s.mem.wf = true) : (f.run s).mem.wf = true := by
  rcases run_mem_cases f s with hmem | ⟨-, v, hrun⟩
  · rw [hmem]
    exact hs
  · rw [hrun]
    exact Memory.wf_write hs s.maddr v

/-- The storing shapes have the opcode bytes 0x3E and 0xF8 to 0xFE. -/
theorem opcode_of_isStore {f : Shape} (hf : isStore f = true) :
    f.opcode = 0x3E#8 ∨ 0xF8 ≤ f.opcode.toNat ∧ f.opcode.toNat ≤ 0xFE := by
  cases f with
  | mvi o v =>
    cases o with
    | reg r => cases hf
    | m => exact .inl rfl
  | movToM r =>
    right
    cases r <;> decide
  | _ => cases hf

/-! ## The latch (10_state.md R40) -/

theorem run_halted {f : Shape} (hf : ∀ op, f ≠ .hlt op) (s : State) : (f.run s).halted = s.halted := by
  cases f with
  | hlt op => exact absurd rfl (hf op)
  | unk op => rfl
  | ret _ | retIf _ | rst _ | jmp _ _ | jumpIf _ _ | call _ _ | callIf _ _ => exact (sameData_run rfl s).halted
  | inr _ | dcr _ | aluImm _ _ | alu _ _ | rotate _ | mvi _ _ | mov _ _ | movFromM _ | movToM _ | iop _ =>
    exact (sameControl_run rfl s).halted

theorem halted_run_fetched_iff (f : Shape) (s : State) :
    (f.run (fetched f s)).halted = true ↔ ∃ op, f = .hlt op := by
  by_cases hf : ∃ op, f = .hlt op
  · obtain ⟨op, rfl⟩ := hf
    exact ⟨fun _ => ⟨op, rfl⟩, fun _ => rfl⟩
  · have hlatch : (f.run (fetched f s)).halted = false := run_halted (not_exists.mp hf) (fetched f s)
    simp [hlatch, hf]

theorem apply_eq_some_iff {q : Driver.Request} {s t : State} :
    Driver.apply q s = some t ↔ Driver.legal q = true ∧ Driver.write q s = t := by
  simp [Driver.apply]

theorem write_halted (q : Driver.Request) (s : State) : (Driver.write q s).halted = s.halted := by
  cases q with
  | setReg r v => exact s.setReg_halted r (BitVec.ofNat 8 v)
  | _ => rfl

/-! ## The obligations -/

/-- Settles O3: every action leaves memory or is one write, and a write keeps the canonical form. -/
theorem stepKeepsMemoryCanonical : Obligations.StepKeepsMemoryCanonical := by
  intro s t hs h
  obtain ⟨f, rest, -, -, rfl⟩ := step_shape h
  exact wf_mem_run f (s := fetched f s) hs

/-- Settles O45: the action was a store, and the one byte it writes is that at MAddr(). -/
theorem onlyStoresChangeMemory : Obligations.OnlyStoresChangeMemory := by
  intro s t a h hne
  obtain ⟨f, rest, -, hwindow, rfl⟩ := step_shape h
  rw [memRead_pc_of_window hwindow]
  rcases run_mem_cases f (fetched f s) with hmem | ⟨hstore, v, hrun⟩
  · exact absurd (congrArg (Memory.read · a) hmem) hne
  · refine ⟨?_, opcode_of_isStore hstore⟩
    by_contra ha
    rw [hrun] at hne
    exact hne (memRead_memWrite_ne (fetched f s) ha v)

/-- Settles O46: the step clears the latch, and only the action of a halt sets it again. -/
theorem haltedTellsTheLastStepHalted : Obligations.HaltedTellsTheLastStepHalted := by
  refine ⟨fun _ => rfl, fun s t h => ?step, fun q s t h => ?driver⟩
  case step =>
    obtain ⟨f, rest, hwf, hwindow, rfl⟩ := step_shape h
    rw [halted_run_fetched_iff, ← opcode_mem_haltBytes_iff hwf, memRead_pc_of_window hwindow]
    simp [haltBytes]
  case driver =>
    obtain ⟨-, rfl⟩ := apply_eq_some_iff.mp h
    exact write_halted q s

/-- Settles O47: the start of a step overwrites both items. -/
theorem haltedAndOldDiagnosticsGateNothing : Obligations.HaltedAndOldDiagnosticsGateNothing := by
  intro s b d
  have hbegin : ({ s with halted := b, diag := d } : State).beginStep = s.beginStep := rfl
  rw [step, hbegin, ← step]

/-- Settles O55: the fetch reads what decoding the bytes at pc reads. -/
theorem stepRunsTheDecodedInstruction : Obligations.StepRunsTheDecodedInstruction := by
  intro s i rest h
  obtain ⟨rest', hd, -, hfetch⟩ := fetchInstr_spec s.beginStep
  obtain ⟨rfl, rfl⟩ := Prod.mk.inj (Except.ok.inj (h.symm.trans hd))
  rw [step, hfetch]
  rfl

/-- Settles O56, by the shape of the instruction. -/
theorem everyStepAnswersNext : Obligations.EveryStepAnswersNext :=
  ⟨fun s => ⟨_, step_eq_run s⟩, fun i s => ⟨_, exec_eq_run i s⟩⟩

end Sys2Proof.Proofs
end

section
/-! PROOFS. 60_exceptions.md, 10_state.md R29 to R32: what a step reports and where it leaves pc, by the opcode. -/

namespace Sys2Proof.Proofs

open Sys2Proof.Machine Sys2Proof.Laws

/-! ## The state an action finds -/

theorem fetched_pc (f : Shape) (s : State) :
    (fetched f s).pc = s.pc + BitVec.ofNat 14 (f.operandBytes.length + 1) := rfl

@[simp] theorem fetched_sp (f : Shape) (s : State) : (fetched f s).sp = s.sp := rfl

@[simp] theorem fetched_flags (f : Shape) (s : State) : (fetched f s).flags = s.flags := rfl

/-! ## The fields of the opcode bytes that are no pattern of three fields -/

/-- A halt byte has no field values of a transfer. -/
theorem haltBytes_fields {op : Byte} (h : op ∈ haltBytes) :
    groupField op ≠ 0b01#2 ∧
      (groupField op = 0b00#2 → lowField op ≠ 0b101#3 ∧ lowField op ≠ 0b111#3 ∧ lowField op ≠ 0b011#3) := by
  have hfields : ∀ op ∈ haltBytes, groupField op ≠ 0b01#2 ∧
      (groupField op = 0b00#2 → lowField op ≠ 0b101#3 ∧ lowField op ≠ 0b111#3 ∧ lowField op ≠ 0b011#3) := by decide
  exact hfields op h

/-- An unknown byte is one of group 00, with no field value of a transfer. -/
theorem unknownBytes_fields {op : Byte} (h : op ∈ unknownBytes) :
    groupField op = 0b00#2 ∧ lowField op ≠ 0b101#3 ∧ lowField op ≠ 0b111#3 ∧ lowField op ≠ 0b011#3 := by
  have hfields : ∀ op ∈ unknownBytes,
      groupField op = 0b00#2 ∧ lowField op ≠ 0b101#3 ∧ lowField op ≠ 0b111#3 ∧ lowField op ≠ 0b011#3 := by decide
  exact hfields op h

/-- A byte of IOP is one of group 01, with no low field of a call. -/
theorem iop_fields (x : BitVec 5) :
    groupField (Shape.iop x).opcode = 0b01#2 ∧ lowField (Shape.iop x).opcode ≠ 0b110#3 ∧
      lowField (Shape.iop x).opcode ≠ 0b010#3 := by
  revert x; decide

/-! ## Diagnostics (60_exceptions.md R211 to R213) -/

/-- A conditional action that is not taken reports nothing. -/
theorem length_ite_le {c : Prop} [Decidable c] {d : List Diagnostic} {n : Nat} (h : d.length ≤ n) :
    (if c then d else []).length ≤ n := by
  split
  · exact h
  · exact Nat.zero_le n

theorem length_emitted_le (f : Shape) (s : State) : (emitted f s).length ≤ 1 := by
  have hover : (overflow s).length ≤ 1 := by unfold overflow; split <;> simp
  have hunder : (underflow s).length ≤ 1 := by unfold underflow; split <;> simp
  cases f with
  | call _ _ | rst _ => exact hover
  | callIf _ _ => exact length_ite_le hover
  | ret _ => exact hunder
  | retIf _ => exact length_ite_le hunder
  | unk _ => exact le_rfl
  | _ => exact Nat.zero_le 1

theorem run_fetched_diag (f : Shape) (s : State) : (f.run (fetched f s)).diag = emitted f (fetched f s) := by
  rw [run_diag]
  rfl

/-! ## The program counter (10_state.md R30 to R32) -/

/-- The address a return goes to. -/
def returnAddress (s : State) : Addr := if h : 0 < s.sp.val then s.stk[s.sp.val - 1]'(by omega) else s.pc

/-- Where the action of a shape leaves pc. -/
def nextPc : Shape → State → Addr
  | .jmp _ w, _ | .call _ w, _ => mask14 w
  | .jumpIf k w, s | .callIf k w, s => if condHolds k s.flags then mask14 w else s.pc
  | .rst a, _ => restartVector a
  | .ret _, s => returnAddress s
  | .retIf k, s => if condHolds k s.flags then returnAddress s else s.pc
  | _, s => s.pc

theorem ret_pc (s : State) : (ret s).pc = returnAddress s := by
  rcases ret_cases s with ⟨hpos, hret⟩ | ⟨hempty, hret⟩
  · rw [hret, returnAddress, dif_pos hpos]
  · rw [hret, returnAddress, dif_neg (by omega), State.report_pc]

/-- A conditional action that is not taken leaves pc. -/
theorem pc_ite {c : Prop} [Decidable c] {s t : State} {a : Addr} (h : t.pc = a) :
    (if c then t else s).pc = if c then a else s.pc := by
  split
  · exact h
  · rfl

theorem run_pc (f : Shape) (s : State) : (f.run s).pc = nextPc f s := by
  cases f with
  | ret x => exact ret_pc s
  | retIf k => exact pc_ite (ret_pc s)
  | jumpIf _ w => exact pc_ite (s.setPc_pc (mask14 w))
  | callIf _ w => exact pc_ite ((s.push s.pc).setPc_pc (mask14 w))
  | jmp _ _ | call _ _ | rst _ | hlt _ | unk _ => rfl
  | inr _ | dcr _ | aluImm _ _ | alu _ _ | rotate _ | mvi _ _ | mov _ _ | movFromM _ | movToM _ | iop _ =>
    exact (sameControl_run rfl s).pc

section

variable {f : Shape} (s : State)

/-- Outside group 00 a 1-byte instruction leaves pc. -/
theorem nextPc_of_group_ne (hlen : f.operandBytes.length = 0) (hgroup : groupField f.opcode ≠ 0b00#2) :
    nextPc f s = s.pc := by
  cases f with
  | ret _ | retIf _ | rst _ => exact absurd (groupField_opcodeByte ..) hgroup
  | jmp _ _ | jumpIf _ _ | call _ _ | callIf _ _ => cases hlen
  | _ => rfl

/-- A 2-byte instruction leaves pc. -/
theorem nextPc_of_immediate (hlen : f.operandBytes.length = 1) : nextPc f s = s.pc := by
  cases f with
  | aluImm _ _ | mvi _ _ => rfl
  | _ => cases hlen

/-- A 3-byte instruction goes to its address operand, or leaves pc when it is conditional and not taken. -/
theorem nextPc_of_address (hlen : f.operandBytes.length = 2) :
    ∃ w, f.operandBytes = addrBytes w ∧ nextPc f s =
      if lowField f.opcode = 0b100#3 ∨ lowField f.opcode = 0b110#3 ∨
        condHolds (condOfCode (midField f.opcode)) s.flags = true
      then mask14 w else s.pc := by
  cases f with
  | jmp _ w | call _ w | jumpIf _ w | callIf _ w => exact ⟨w, rfl, by simp [nextPc, Shape.opcode]⟩
  | _ => cases hlen

/-- In group 00 a 1-byte instruction is a restart, a return, or leaves pc. -/
theorem nextPc_of_group00 (hwf : f.wf = true) (hlen : f.operandBytes.length = 0)
    (hgroup : groupField f.opcode = 0b00#2) :
    nextPc f s =
      if lowField f.opcode = 0b101#3 then BitVec.ofNat 14 (8 * (midField f.opcode).toNat)
      else if lowField f.opcode = 0b111#3 ∨
          (lowField f.opcode = 0b011#3 ∧ condHolds (condOfCode (midField f.opcode)) s.flags = true) then
        returnAddress s
      else s.pc := by
  cases f with
  | hlt op =>
    obtain ⟨hrst, hret, hretIf⟩ := (haltBytes_fields (List.contains_iff_mem.mp hwf)).2 hgroup
    simp [nextPc, Shape.opcode, hrst, hret, hretIf]
  | unk op =>
    obtain ⟨-, hrst, hret, hretIf⟩ := unknownBytes_fields (List.contains_iff_mem.mp hwf)
    simp [nextPc, Shape.opcode, hrst, hret, hretIf]
  | rst a => simp [nextPc, Shape.opcode, restartVector_eq_ofNat]
  | ret _ | retIf _ | inr _ | dcr _ | rotate _ => simp [nextPc, Shape.opcode]
  | iop x => simp [(iop_fields x).1] at hgroup
  | alu _ _ | mov _ _ | movFromM _ | movToM _ => simp [Shape.opcode] at hgroup
  | _ => cases hlen

end

/-- The address operand is the word of the two bytes after the opcode. -/
theorem addrWord_of_window {s : State} {op : Byte} {w : Word} {rest : List Byte}
    (h : fetchWindow s = op :: (addrBytes w ++ rest)) :
    w = addrWord (s.memRead (s.pc + 1#14)) (s.memRead (s.pc + 2#14)) := by
  obtain ⟨-, hlo, hhi, -⟩ : _ ∧ s.memRead (s.pc + 1#14) = w.extractLsb' 0 8 ∧
      s.memRead (s.pc + 2#14) = w.extractLsb' 8 8 ∧ _ := by
    simpa only [fetchWindow, addrBytes, List.cons_append, List.nil_append, List.cons.injEq] using h
  rw [hlo, hhi, addrWord_extract]

/-! ## The obligations -/

/-- Settles O48: the step emits what its action emits, and that is told by the fields of the opcode byte. -/
theorem stepEmitsExactlyThisDiagnostic : Obligations.StepEmitsExactlyThisDiagnostic := by
  intro s t h
  obtain ⟨f, rest, hwf, hwindow, rfl⟩ := step_shape h
  rw [memRead_pc_of_window hwindow, run_fetched_diag]
  refine ⟨fun hop => ?unknown, fun hop => ?known, length_emitted_le f (fetched f s)⟩
  case unknown =>
    obtain ⟨op, rfl⟩ := (opcode_mem_unknownBytes_iff hwf).mp hop
    have haddr : s.pc + 1#14 - 1#14 = s.pc := BitVec.add_sub_cancel ..
    exact congrArg (fun a => [Diagnostic.unknownOpcode op a]) haddr
  case known =>
    cases f with
    | unk op => exact absurd (List.contains_iff_mem.mp hwf) hop
    | hlt op =>
      obtain ⟨hcall, hother⟩ := haltBytes_fields (List.contains_iff_mem.mp hwf)
      by_cases hgroup : groupField op = 0b00#2
      · obtain ⟨hrst, hret, hretIf⟩ := hother hgroup
        simp [emitted, Shape.opcode, hcall, hrst, hret, hretIf]
      · simp [emitted, Shape.opcode, hcall, hgroup]
    | iop x =>
      obtain ⟨hgroup, hcall, hcallIf⟩ := iop_fields x
      simp [emitted, hgroup, hcall, hcallIf]
    | call _ _ | rst _ => by_cases hfull : s.sp.val = 8 <;> simp [emitted, Shape.opcode, overflow, hfull]
    | callIf k _ =>
      by_cases hfull : s.sp.val = 8 <;> by_cases hk : condHolds k s.flags = true <;>
        simp [emitted, Shape.opcode, overflow, hfull, hk]
    | ret _ => simp [emitted, Shape.opcode, underflow]
    | retIf k =>
      by_cases hempty : s.sp = 0 <;> by_cases hk : condHolds k s.flags = true <;>
        simp [emitted, Shape.opcode, underflow, hempty, hk]
    | _ => simp [emitted, Shape.opcode]

/-- Settles O49: the action leaves pc at the next instruction, the address operand, the vector or the slot popped. -/
theorem programCounterAfterStep : Obligations.ProgramCounterAfterStep := by
  rintro s t op lo hi h hop rfl rfl
  obtain ⟨f, rest, hwf, hwindow, rfl⟩ := step_shape h
  obtain rfl : f.opcode = op := (memRead_pc_of_window hwindow).symm.trans hop
  rw [run_pc, instrLength_opcode hwf]
  refine ⟨fun hlen hgroup => ?other, fun hlen => ?immediate, fun hlen => ?address, fun hlen hgroup => ?group00⟩
  case other => rw [nextPc_of_group_ne _ (Nat.succ.inj hlen) hgroup, fetched_pc, hlen]
  case immediate => rw [nextPc_of_immediate _ (Nat.succ.inj hlen), fetched_pc, hlen]
  case address =>
    obtain ⟨w, hbytes, hpc⟩ := nextPc_of_address (fetched f s) (Nat.succ.inj hlen)
    rw [hbytes] at hwindow
    rw [hpc, fetched_pc, hlen, mask14_eq_ofNat, addrWord_of_window hwindow, addrWord_toNat, fetched_flags]
  case group00 =>
    have hreturn : returnAddress (fetched f s) =
        if h : 0 < s.sp.val then s.stk[s.sp.val - 1]'(by omega) else s.pc + 1#14 := by
      rw [returnAddress, fetched_pc, hlen]
      rfl
    rw [nextPc_of_group00 _ hwf (Nat.succ.inj hlen) hgroup, hreturn, fetched_pc, hlen, fetched_flags]

end Sys2Proof.Proofs
end

section
/-! PROOFS. 70_reset_and_hazards.md R242 to R246: bytes written in a row, the word placed at pc, and the driver. -/

namespace Sys2Proof.Proofs

open Sys2Proof.Machine

/-! ## Bytes written in a row -/

/-- Writing bytes in a row changes no core state. -/
theorem memWriteList_eq (s : State) (a : Addr) (bs : List Byte) :
    s.memWriteList a bs = { s with mem := (s.memWriteList a bs).mem } := by
  induction bs generalizing s a with
  | nil => rfl
  | cons v bs ih => exact ih (s.memWrite a v) (a + 1#14)

/-- An address other than `a` is one place nearer to `a + 1` than to `a`. -/
theorem toNat_sub_succ {a b : Addr} (h : b ≠ a) : (b - a).toNat = (b - (a + 1#14)).toNat + 1 := by
  have hne : b.toNat ≠ a.toNat := fun heq => h (BitVec.eq_of_toNat_eq heq)
  rw [BitVec.toNat_sub, BitVec.toNat_sub, BitVec.toNat_add, BitVec.toNat_ofNat]
  omega

/-- The address just before `a + 1` is the last of the space. -/
theorem toNat_sub_succ_self (a : Addr) : (a - (a + 1#14)).toNat = 16383 := by
  rw [BitVec.toNat_sub, BitVec.toNat_add, BitVec.toNat_ofNat]
  omega

/-- Of bytes written in a row, no more than there are addresses, each address at distance `n` holds byte `n`. -/
theorem memRead_memWriteList (s : State) (a b : Addr) {bs : List Byte} (hlen : bs.length ≤ 16384) :
    (s.memWriteList a bs).memRead b = (bs[(b - a).toNat]?).getD (s.memRead b) := by
  induction bs generalizing s a with
  | nil => rfl
  | cons v bs ih =>
    have hrest : bs.length ≤ 16383 := Nat.le_of_succ_le_succ hlen
    have hih := ih (s.memWrite a v) (a + 1#14) (by omega)
    by_cases hb : b = a
    · rw [hb, toNat_sub_succ_self, List.getElem?_eq_none hrest] at hih
      rw [hb, BitVec.sub_self]
      exact hih.trans (memRead_memWrite_self s a v)
    · rw [memRead_memWrite_ne s hb] at hih
      rw [toNat_sub_succ hb, List.getElem?_cons_succ]
      exact hih

theorem memRead_memWriteList_getElem (s : State) (a : Addr) {bs : List Byte} (hlen : bs.length ≤ 16384) {n : Nat}
    (hn : n < bs.length) : (s.memWriteList a bs).memRead (a + BitVec.ofNat 14 n) = bs[n] := by
  have hdist : (a + BitVec.ofNat 14 n - a).toNat = n := by
    rw [add_sub_cancel_left]
    exact Nat.mod_eq_of_lt (by omega)
  rw [memRead_memWriteList s a _ hlen, hdist, List.getElem?_eq_getElem hn, Option.getD_some]

/-! ## The word placed at pc -/

theorem withFetchWord_pc (s : State) (nbits w : Nat) : (s.withFetchWord nbits w).pc = s.pc := by
  rw [State.withFetchWord, memWriteList_eq]

theorem fetchWindow_withFetchWord (s : State) (nbits w : Nat) :
    fetchWindow (s.withFetchWord nbits w) = tableBytes nbits w := by
  have hthree : (tableBytes nbits w).length = 3 := rfl
  have hread {n : Nat} (hn : n < 3) :
      (s.withFetchWord nbits w).memRead (s.pc + BitVec.ofNat 14 n) = (tableBytes nbits w)[n] :=
    memRead_memWriteList_getElem s s.pc (by omega) hn
  have hzero := hread (n := 0) (by omega)
  rw [show s.pc + BitVec.ofNat 14 0 = s.pc from BitVec.add_zero ..] at hzero
  rw [fetchWindow, withFetchWord_pc, hzero, hread (n := 1) (by omega), hread (n := 2) (by omega)]
  rfl

theorem decode_of_decodeTableWord {nbits w : Nat} {i : Instr} (h : decodeTableWord nbits w = some i) :
    ∃ rest, decode (tableBytes nbits w) = .ok (i, rest) := by
  unfold decodeTableWord at h
  split at h
  · next j rest hd =>
    obtain rfl := Option.some.inj h
    exact ⟨rest, hd⟩
  · cases h

/-! ## Latches one by one (30_encoding.md R80) -/

theorem flagValue_writeFlag (n n' : FlagName) (b : Bool) (fl : Flags) :
    flagValue n' (Driver.writeFlag n b fl) = if n' = n then b else flagValue n' fl := by
  cases n <;> cases n' <;> rfl

theorem flags_ext {f g : Flags} (h : ∀ n, flagValue n f = flagValue n g) : f = g := by
  obtain ⟨_, _, _, _⟩ := f
  obtain ⟨_, _, _, _⟩ := g
  exact (Flags.mk.injEq ..).mpr ⟨h .sign, h .zero, h .parity, h .carry⟩

theorem setFlag_eq_iff {n : FlagName} {b : Bool} {s t : State} :
    { s with flags := Driver.writeFlag n b s.flags } = t ↔
      flagValue n t.flags = b ∧ (∀ n', n' ≠ n → flagValue n' t.flags = flagValue n' s.flags) ∧
        { t with flags := s.flags } = s := by
  constructor
  · rintro rfl
    exact ⟨by simp [flagValue_writeFlag], fun n' hn => by simp [flagValue_writeFlag, hn], rfl⟩
  · rintro ⟨hnamed, hothers, hs⟩
    have hflags : Driver.writeFlag n b s.flags = t.flags := by
      refine flags_ext fun n' => ?_
      rw [flagValue_writeFlag]
      split
      · next hn => rw [hn, hnamed]
      · next hn => rw [hothers n' hn]
    rw [hflags]
    exact congrArg (fun u : State => { u with flags := t.flags }) hs.symm

theorem setSp_eq_iff {v : Nat} (hv : v ≤ 8) {s t : State} :
    Driver.write (.setSp v) s = t ↔ t.sp.val = v ∧ { t with sp := s.sp } = s := by
  have hval : (Fin.ofNat 9 v).val = v := Nat.mod_eq_of_lt (by omega)
  constructor
  · rintro rfl
    exact ⟨hval, rfl⟩
  · rintro ⟨hsp, hs⟩
    have heq : Fin.ofNat 9 v = t.sp := Fin.ext (hval.trans hsp.symm)
    rw [Driver.write, heq]
    exact congrArg (fun u : State => { u with sp := t.sp }) hs.symm

/-! ## A whole image (R246) -/

/-- Byte `i` of an image loaded from address 0 on is at address `i`. -/
theorem memRead_image {image : List Byte} (hlen : image.length = 16384) (s : State) {i : Nat} (hi : i < 16384) :
    (s.memWriteList 0#14 image).memRead (BitVec.ofNat 14 i) = image[i] := by
  rw [← memRead_memWriteList_getElem s 0#14 (Nat.le_of_eq hlen), BitVec.zero_add]

/-! ## The obligations -/

/-- Settles O57: the three bytes of the word are those at pc, and the fetch reads what they decode to. -/
theorem placedWordIsFetchedNext : Obligations.PlacedWordIsFetchedNext := by
  intro s nbits w i h
  obtain ⟨rest, hword⟩ := decode_of_decodeTableWord h
  obtain ⟨rest', hd, -⟩ := fetchInstr_spec (s.withFetchWord nbits w).beginStep
  have hwindow : fetchWindow (s.withFetchWord nbits w).beginStep = tableBytes nbits w :=
    fetchWindow_withFetchWord s nbits w
  rw [hwindow, hword] at hd
  exact (Prod.mk.inj (Except.ok.inj hd)).1.symm

/-- Settles O58: each request is legal by the bound it names, and writes one item. -/
theorem driverWritesExactlyWhatItNames : Obligations.DriverWritesExactlyWhatItNames := by
  refine fun s => ⟨fun v => ?pc, fun r v => ?reg, fun n v t => ?flag, fun v t => ?sp, fun a v => ?mem⟩
  case pc => simp [Driver.apply, Driver.legal, Driver.write, State.setPc]
  case reg => simp [Driver.apply, Driver.legal, Driver.write]
  case flag =>
    rw [apply_eq_some_iff, ← setFlag_eq_iff]
    simp [Driver.legal, Driver.write]
  case sp =>
    rw [apply_eq_some_iff, Driver.legal, decide_eq_true_eq]
    exact and_congr_right fun hv => setSp_eq_iff hv
  case mem => simp [Driver.apply, Driver.legal, Driver.write]

/-- Settles O59: byte `i` is written at distance `i` from address 0, which is address `i`. -/
theorem loadedImageIsDumpedBack : Obligations.LoadedImageIsDumpedBack := by
  refine fun image s => ⟨fun hlen => ⟨s.memWriteList 0#14 image, if_pos hlen, ?bytes, ?dump, ?frame⟩,
    fun hlen => if_neg hlen⟩
  case bytes => exact fun i hi => memRead_image hlen s hi
  case dump =>
    refine List.ext_getElem (by simp [Driver.dumpImage, hlen]) fun i _ hi => ?_
    simp only [Driver.dumpImage, List.getElem_map, List.getElem_range]
    exact memRead_image hlen s (hlen ▸ hi)
  case frame => rw [memWriteList_eq]

end Sys2Proof.Proofs
end
